-- ==== Sys2Proof/Word.lean ====
section
/-! DEFINITION. The value types of the engine (00_scope.md R9) and the types of the two humidity lanes (R7). -/

namespace Sys2Proof

/-- `u8` of 00_scope.md R9: a bus byte, a command byte, a status byte, the operand `A8`. -/
abbrev Byte := BitVec 8

/-- `u16` of 00_scope.md R9: a register word, the operands `W0` and `W1`. -/
abbrev Word := BitVec 16

/-- A 7-bit bus address (10_state.md R22). -/
abbrev Addr := BitVec 7

/-- What a host puts on the lane `HREQ`, as the value `hum_in_val` gives it (00_scope.md R7): a rational, or
`none` for "not a number". The rules use an operand of any format `HUM_IN` through that value only
(DESIGN CHOICE, safe: log entry 3). -/
abbrev HumIn := Option Rat

/-- The lane `HRSP`: the number whose binary digits the lane carries, in whatever format `HUM_OUT` is
(00_scope.md R7; DESIGN CHOICE, safe: log entry 4). -/
abbrev HumOut := Nat

end Sys2Proof
end

