-- ==== Sys2Proof/Machine/Constants.lean ====
section
/-! DEFINITION. The named constants of 00_scope.md R8, under their own names: the rules use the names. -/

namespace Sys2Proof.Config

/-- Wire command byte: enter command mode. -/
def CMD_START : Byte := 0xA0
/-- Wire command byte: exit command mode. -/
def CMD_EXIT : Byte := 0x80
/-- Read alarm-high-on threshold. -/
def CMD_RD_AH_ON : Byte := 0x18
/-- Read alarm-high-off threshold. -/
def CMD_RD_AH_OFF : Byte := 0x19
/-- Read alarm-low-on threshold. -/
def CMD_RD_AL_ON : Byte := 0x1A
/-- Read alarm-low-off threshold. -/
def CMD_RD_AL_OFF : Byte := 0x1B
/-- Read customer-config. -/
def CMD_RD_CFG : Byte := 0x1C
/-- Write alarm-high-on threshold. -/
def CMD_WR_AH_ON : Byte := 0x58
/-- Write alarm-high-off threshold. -/
def CMD_WR_AH_OFF : Byte := 0x59
/-- Write alarm-low-on threshold. -/
def CMD_WR_AL_ON : Byte := 0x5A
/-- Write alarm-low-off threshold. -/
def CMD_WR_AL_OFF : Byte := 0x5B
/-- Write customer-config. -/
def CMD_WR_CFG : Byte := 0x5C
/-- Greatest legal bus address. -/
def ADDR_MAX : Byte := 0x7F
/-- AND mask that clears the address bits of customer-config. -/
def M_ADDR_CLR : Word := 0xFF80
/-- OR bit: alarm-low polarity active-low. -/
def B_ALPOL : Word := 0x0040
/-- AND mask clearing `B_ALPOL`. -/
def M_ALPOL_CLR : Word := 0xFFBF
/-- OR bit: alarm-low output open-drain. -/
def B_ALOUT : Word := 0x0080
/-- AND mask clearing `B_ALOUT`. -/
def M_ALOUT_CLR : Word := 0xFF7F
/-- OR bit: alarm-high polarity active-low. -/
def B_AHPOL : Word := 0x0100
/-- AND mask clearing `B_AHPOL`. -/
def M_AHPOL_CLR : Word := 0xFEFF
/-- OR bit: alarm-high output open-drain. -/
def B_AHOUT : Word := 0x0200
/-- AND mask clearing `B_AHOUT`. -/
def M_AHOUT_CLR : Word := 0xFDFF
/-- OR bit: startup window 3 ms. -/
def B_SU3MS : Word := 0x1000
/-- AND mask clearing `B_SU3MS`. -/
def M_SU3MS_CLR : Word := 0xEFFF
/-- Counts at 100 percent relative humidity. -/
def HUM_SCALE : Nat := 16382
/-- The humidity value that `HUM_SCALE` counts stand for. -/
def HUM_FULL : Nat := 100

end Sys2Proof.Config
end

