-- ==== Sys2Proof/Machine/Flags.lean ====
section
/-! DEFINITION. The two decoders of single bits: the status byte (41_register_transactions.md R100) and the
customer-config word (45_conversion_and_decode.md R160). The engine has no condition codes (10_state.md R31). -/

namespace Sys2Proof.Machine

/-- The outputs of `StatusDecode` (41_register_transactions.md R100). -/
structure StatusBits where
  cm : Bool
  resp : BitVec 2
  done : Bool
  ack : Bool
  deriving DecidableEq, Repr

/-- `StatusDecode(s)` (41_register_transactions.md R100): bits 6:2 reach no output. -/
def statusDecode (s : Byte) : StatusBits where
  cm := s.getLsbD 7
  resp := s.extractLsb' 0 2
  done := s.extractLsb' 0 2 != 0#2
  ack := s.getLsbD 0

/-- The six decoded-field lanes (30_encoding.md R62). -/
structure CfgFields where
  fAddr : Addr
  fAlpol : Bool
  fAlout : Bool
  fAhpol : Bool
  fAhout : Bool
  fSu3ms : Bool
  deriving DecidableEq, Repr

/-- `CfgDecode(w)` (45_conversion_and_decode.md R160). Bit 6 is both `F_ADDR[6]` and `F_ALPOL`
(44_config_change.md R137; 90_conflicts.md C2). -/
def cfgDecode (w : Word) : CfgFields where
  fAddr := w.extractLsb' 0 7
  fAlpol := w.getLsbD 6
  fAlout := w.getLsbD 7
  fAhpol := w.getLsbD 8
  fAhout := w.getLsbD 9
  fSu3ms := w.getLsbD 12

end Sys2Proof.Machine
end

