-- ==== Sys2Proof/Machine/Operands.lean ====
section
/-! DEFINITION. Operand assembly on the bus side (30_encoding.md R70), the combine gate (41_register_transactions.md R105),
the argument tests (60_exceptions.md R190), and the count/humidity conversions (45_conversion_and_decode.md). -/

namespace Sys2Proof.Machine

/-- `hi8(w) = w[15:8]` (00_scope.md R9). -/
def hi8 (w : Word) : Byte := w.extractLsb' 8 8

/-- `lo8(w) = w[7:0]` (00_scope.md R9). -/
def lo8 (w : Word) : Byte := w.extractLsb' 0 8

/-- `dataHigh ‖ dataLow`, most significant byte first (20_memory.md R47). -/
def joinBytes (dh dl : Byte) : Word := dh ++ dl

/-- The address as the transport sees it: a `u8` whose top bit is 0 (20_memory.md R40). -/
def busAddr (a : Addr) : Byte := a.setWidth 8

/-- `a[6:0]` of the operand `A8` (30_encoding.md R60). -/
def low7 (a : Byte) : Addr := a.extractLsb' 0 7

/-- `zext_16(a[6:0])`: an address entering a customer-config word (30_encoding.md R70 (c)). -/
def addrField (a : Byte) : Word := (low7 a).setWidth 16

/-- The `combine` argument of a register write (41_register_transactions.md R105). -/
inductive CombineMode where
  | or
  | and
  deriving DecidableEq, Repr

/-- `Combine(mode, old, new)` (41_register_transactions.md R105). -/
def combine (m : CombineMode) (old new : Word) : Word :=
  match m with
  | .or => old ||| new
  | .and => old &&& new

/-- The address operand test `a > ADDR_MAX`, an unsigned comparison of 8 bits (40_lifecycle.md R90). -/
def addrTooBig (a : Byte) : Bool := Config.ADDR_MAX < a

/-- `hum_in_val` (00_scope.md R7) of the lane as the model holds it (log entry 3). -/
def humInVal (h : HumIn) : Option Rat := h

/-- The humidity operand of a threshold change when it is a number in the closed interval 0 to `HUM_FULL`, and `none`
when the test of 43_threshold_change.md R125 fails. -/
def humArgument (h : HumIn) : Option Rat :=
  match humInVal h with
  | none => none
  | some q => if q < 0 ∨ (Config.HUM_FULL : Rat) < q then none else some q

/-- `BitsToHumidity(raw) = raw * 100 / 16382`, exact (45_conversion_and_decode.md R155). -/
def bitsToHumidity (raw : Word) : Rat := (raw.toNat : Rat) * Config.HUM_FULL / Config.HUM_SCALE

/-- `clamp_0_65535` (45_conversion_and_decode.md R157). -/
def clampCount (z : Int) : Word :=
  if z < 0 then 0 else if 65535 < z then 0xFFFF else BitVec.ofInt 16 z

/-- `HumidityToBits(q)`: scaled exactly, floored once, last, then clamped (45_conversion_and_decode.md R157). -/
def humidityToBits (q : Rat) : Word := clampCount ⌊q * Config.HUM_SCALE / Config.HUM_FULL⌋

/-- The value `H2B` delivers: 0 for an operand that is not a number (45_conversion_and_decode.md R158). -/
def humidityOperandToBits (h : HumIn) : Word :=
  match humInVal h with
  | none => 0x0000
  | some q => humidityToBits q

/-- The word `CHGADDR a` writes over `cfg`: the AND first, then the OR (44_config_change.md R136). -/
def changedAddress (cfg : Word) (a : Byte) : Word :=
  combine .or (combine .and cfg Config.M_ADDR_CLR) (addrField a)

end Sys2Proof.Machine
end

