-- ==== Sys2Proof/Syntax.lean ====
section
/-! DEFINITION. The 29 host operations, the request that carries one, and the six operand formats
(30_encoding.md R60, R61, R63). -/

namespace Sys2Proof

/-- One constructor for each row of spec/opcode_table.json (30_encoding.md R63). Operands stand in the order of
the assembler syntax (R80). Every operand has exactly the width of its request field (R60), so that no term
of this type is ill-formed. -/
inductive Instr where
  /-- `SETADDR a`, 40_lifecycle.md R90. -/
  | setaddr (a : Byte)
  /-- `ENTER`, 40_lifecycle.md R91. -/
  | enter
  /-- `EXIT`, 40_lifecycle.md R92. -/
  | exit
  /-- `TEARDOWN`, 40_lifecycle.md R93. -/
  | teardown
  /-- `RDREG cmd`, 41_register_transactions.md R104. -/
  | rdreg (cmd : Byte)
  /-- `WRREG.OR cmd, old, new`, 41_register_transactions.md R106. -/
  | wrregOr (cmd : Byte) (old new : Word)
  /-- `WRREG.AND cmd, old, mask`, 41_register_transactions.md R107. -/
  | wrregAnd (cmd : Byte) (old mask : Word)
  /-- `RDAHON`, 42_read_accessors.md R116. -/
  | rdahon
  /-- `RDAHOFF`, 42_read_accessors.md R117. -/
  | rdahoff
  /-- `RDALON`, 42_read_accessors.md R118. -/
  | rdalon
  /-- `RDALOFF`, 42_read_accessors.md R119. -/
  | rdaloff
  /-- `RDCFG`, 42_read_accessors.md R120. -/
  | rdcfg
  /-- `WRAHON h`, 43_threshold_change.md R126. -/
  | wrahon (h : HumIn)
  /-- `WRAHOFF h`, 43_threshold_change.md R127. -/
  | wrahoff (h : HumIn)
  /-- `WRALON h`, 43_threshold_change.md R128. -/
  | wralon (h : HumIn)
  /-- `WRALOFF h`, 43_threshold_change.md R129. -/
  | wraloff (h : HumIn)
  /-- `CHGADDR a`, 44_config_change.md R136. -/
  | chgaddr (a : Byte)
  /-- `ALPOL.SET`, 44_config_change.md R138. -/
  | alpolSet
  /-- `ALPOL.CLR`, 44_config_change.md R139. -/
  | alpolClr
  /-- `ALOUT.SET`, 44_config_change.md R140. -/
  | aloutSet
  /-- `ALOUT.CLR`, 44_config_change.md R141. -/
  | aloutClr
  /-- `AHPOL.SET`, 44_config_change.md R142. -/
  | ahpolSet
  /-- `AHPOL.CLR`, 44_config_change.md R143. -/
  | ahpolClr
  /-- `AHOUT.SET`, 44_config_change.md R144. -/
  | ahoutSet
  /-- `AHOUT.CLR`, 44_config_change.md R145. -/
  | ahoutClr
  /-- `SU3MS.SET`, 44_config_change.md R146. -/
  | su3msSet
  /-- `SU3MS.CLR`, 44_config_change.md R147. -/
  | su3msClr
  /-- `B2H raw`, 45_conversion_and_decode.md R156. -/
  | b2h (raw : Word)
  /-- `H2B h`, 45_conversion_and_decode.md R158. -/
  | h2b (h : HumIn)
  deriving DecidableEq, Repr, Inhabited

/-- A host request: the 48-bit word `REQ` and the humidity lane `HREQ` (30_encoding.md R60). -/
structure Request where
  req : BitVec 48
  hreq : HumIn
  deriving DecidableEq, Repr, Inhabited

/-- What decoding a request gives: an operation, or the rejection of an `OP` that 30_encoding.md R63 does not
list (R64). The latch `OPR` holds one of these (10_state.md R27; 46_sequencer_steps.md R171, first column). -/
inductive Decoded where
  | instr (i : Instr)
  | illegalOp (op : Byte)
  deriving DecidableEq, Repr, Inhabited

/-- The six operand formats of 30_encoding.md R61. -/
inductive Format where
  /-- `N`: no field is read. -/
  | n
  /-- `A`: `A8` as an address. -/
  | a
  /-- `R`: `A8` as a command byte. -/
  | r
  /-- `W`: `A8` as a command byte, `W0`, `W1`. -/
  | w
  /-- `C`: `W0` as a raw count. -/
  | c
  /-- `H`: `HREQ`. -/
  | h
  deriving DecidableEq, Repr

end Sys2Proof
end

