-- ==== Sys2Proof/Config.lean ====
section
/-! DEFINITION. What an implementation fixes (the OPEN parameters of 00_scope.md R7) and the free values the
spec leaves unspecified. None has a body: nothing can be proved of a value of any of them. The named
constants of R8 stand in Sys2Proof/Machine/Constants.lean. -/

namespace Sys2Proof.Config

/-- `POLL_LIMIT - 1`, where `POLL_LIMIT >= 1` is the OPEN bound of a busy poll (00_scope.md R7,
92_eei_decisions.md D5; log entry 2). -/
opaque pollLimitLess1 : Nat

/-- `hum_out_enc`, the OPEN format of the humidity results (00_scope.md R7, 92_eei_decisions.md D10; log entry 4). -/
opaque humOutEnc : Rat → HumOut

/-- The byte the environment returns where `State.answers` lists none: any value (20_memory.md R43,
93_implementation_defined.md U10; log entry 9). -/
opaque freeAnswer : Nat → Byte

/-- `ADDR` after `TEARDOWN` or a reset event: unspecified (40_lifecycle.md R93, 10_state.md R35; log entry 7). -/
opaque freeAddr : Nat → Addr

/-- The latch `OPR` after a reset event: unspecified (10_state.md R35; log entry 8). -/
opaque freeOpr : Nat → Decoded

/-- The latch `CMD` after a reset event: unspecified (10_state.md R35; log entry 8). -/
opaque freeCmd : Nat → Byte

/-- The latch `TXW` after a reset event: unspecified (10_state.md R35; log entry 8). -/
opaque freeTxw : Nat → Word

/-- The latch `RXW` after a reset event: unspecified (10_state.md R35; log entry 8). -/
opaque freeRxw : Nat → Word

/-- The latch `ST` after a reset event: unspecified (10_state.md R35; log entry 8). -/
opaque freeSt : Nat → Byte

/-- The latch `PCNT` after a reset event: unspecified (10_state.md R35; log entry 8). -/
opaque freePcnt : Nat → Nat

end Sys2Proof.Config
end

