-- ==== Sys2Proof/Machine/State.lean ====
section
/-! DEFINITION. The state of the engine (10_state.md), the observations claims are stated over, the two reason
types, and the state after reset (R35). -/

namespace Sys2Proof.Machine

/-- The session register `MODE` (10_state.md R24): 0 is Normal, 1 is InCommandMode. -/
inductive Mode where
  | normal
  | inCommandMode
  deriving DecidableEq, Repr

/-- The eight sequencer states (10_state.md R28, 46_sequencer_steps.md R170). -/
inductive Seq where
  /-- `IDLE`: no operation in progress. -/
  | idle
  /-- `START_TX`: `ENTER` accepted, frame not yet sent. -/
  | startTx
  /-- `START_RX`: START frame sent. -/
  | startRx
  /-- `EXIT_TX`: `EXIT` or `TEARDOWN` accepted, frame not yet sent. -/
  | exitTx
  /-- `RD_TX`: a read transaction is due. -/
  | rdTx
  /-- `RD_POLL`: read frame sent, device not yet seen done. -/
  | rdPoll
  /-- `WR_TX`: a write transaction is due. -/
  | wrTx
  /-- `WR_POLL`: write frame sent, device not yet seen done. -/
  | wrPoll
  deriving DecidableEq, Repr

/-- One event of the bus trace (00_scope.md R10, R12). The address is the `u8` the transport sees (20_memory.md R40);
a write carries exactly three bytes (R40), a read one or three (R41). -/
inductive BusEvent where
  /-- `W(a,[b0,b1,b2])`. -/
  | write (a b0 b1 b2 : Byte)
  /-- `R(a,1,[r0])`. -/
  | read1 (a r0 : Byte)
  /-- `R(a,3,[r0,r1,r2])`. -/
  | read3 (a r0 r1 r2 : Byte)
  deriving DecidableEq, Repr

/-- The eight failure outcomes (30_encoding.md R72, 60_exceptions.md R190). -/
inductive Failure where
  | invalidArgument
  | notInCommandMode
  | deviceNack
  | timeout
  | enterFailed
  | noAddress
  | inCommandMode
  | illegalOp
  deriving DecidableEq, Repr

/-- What a successful operation delivers (30_encoding.md R62): nothing, a word on `VALUE`, a word and a humidity (the
threshold accessors), or a humidity on `HRSP`. The humidity is the exact rational before `hum_out_enc`. -/
inductive Result where
  | noValue
  | word (w : Word)
  | wordHum (w : Word) (q : Rat)
  | hum (q : Rat)
  deriving DecidableEq, Repr

/-- The response of one operation, "carrying the value only on success" (30_encoding.md R62); its lanes are
`Reply.response` in Machine/Response.lean. -/
inductive Reply where
  | ok (r : Result)
  | fail (f : Failure)
  deriving DecidableEq, Repr

/-- What the host side does, one entry a turn (00_scope.md R6, 60_exceptions.md R197, 70_reset_and_hazards.md R210;
DESIGN CHOICE: log entry 11). -/
inductive HostInput where
  /-- a request is presented and stays presented until it is accepted -/
  | request (r : Request)
  /-- nothing is presented during one micro-step -/
  | quiet
  /-- the reset event -/
  | reset
  deriving DecidableEq, Repr

/-- The machine. The first eleven fields are every piece of state 10_state.md gives the engine; what the six latches hold
while `SEQ = IDLE` is the model's (93_implementation_defined.md U12; log entries 6, 8, 16, 23); the last seven are the
model's own: the parameter POLL_LIMIT, the inputs still to come, and the observations (bus trace, bus events of before the
last reset event, responses). -/
structure State where
  /-- `ADDR` (R22). -/
  addr : Addr
  /-- `ADDR_SET` (R23). -/
  addrSet : Bool
  /-- `MODE` (R24). -/
  mode : Mode
  /-- `BUSY` (R25). -/
  busy : Bool
  /-- `SEQ` (R28). -/
  seq : Seq
  /-- latch `OPR` (R27): the decoded request. -/
  opr : Decoded
  /-- latch `CMD` (R27). -/
  cmd : Byte
  /-- latch `TXW` (R27). -/
  txw : Word
  /-- latch `RXW` (R27). -/
  rxw : Word
  /-- latch `ST` (R27). -/
  st : Byte
  /-- latch `PCNT` (R27): a count bounded by POLL_LIMIT. -/
  pcnt : Nat
  /-- MODEL: the parameter POLL_LIMIT (00_scope.md R7), written by no step (log entry 2). -/
  pollLimit : Nat
  /-- MODEL: what the host does next, first entry first (log entry 11). -/
  host : List HostInput
  /-- MODEL: the bytes the environment returns next (20_memory.md R43; log entry 9). -/
  answers : List Byte
  /-- MODEL: how many free values were drawn (log entries 7, 8, 9). -/
  draws : Nat
  /-- MODEL: the bus trace (00_scope.md R12), "since reset", oldest event first (log entry 10). -/
  trace : List BusEvent
  /-- MODEL: the bus events of before the last reset event, oldest first: "the frames it had already sent stay sent"
  (70_reset_and_hazards.md R210; log entry 10). -/
  earlier : List BusEvent
  /-- MODEL: the responses delivered, oldest first (log entry 12). -/
  replies : List Reply
  deriving DecidableEq, Repr

/-- Why a step stops. Neither reason can arise in a state that a run from reset reaches; both are safe
(log entry 14). -/
inductive Fault where
  /-- Raised by the read poll of an operation that 46_sequencer_steps.md R179 gives no continuation after a read.
  Safe: the machine stops where the spec has no rule. -/
  | noContinuation
  /-- Raised by a step in a state other than `IDLE` with no decoded operation in `OPR` (46_sequencer_steps.md R171 never
  leads there). Safe: the machine stops where the spec has no rule. -/
  | noOperation
  deriving DecidableEq, Repr

/-- Why a step is refused. The model refuses nothing. -/
inductive Refusal where
  /-- An instruction without a meaning, by its mnemonic. Raised by no arm. Safe: the machine stops. -/
  | notModelled (mnemonic : String)
  deriving DecidableEq, Repr

/-- The outcome of a micro-step. -/
abbrev Answer := Host.Outcome State Fault Refusal

/-- The state after reset (10_state.md R35). `MODE`, `ADDR_SET`, `BUSY` and `SEQ` are the spec's; the spec gives `ADDR` and
the six latches no value (DESIGN CHOICE, unsafe: log entries 5 and 6); the last seven fields are the model's. -/
def State.reset : State where
  addr := 0
  addrSet := false
  mode := .normal
  busy := false
  seq := .idle
  opr := .illegalOp 0
  cmd := 0
  txw := 0
  rxw := 0
  st := 0
  pcnt := 0
  pollLimit := Config.pollLimitLess1 + 1
  host := []
  answers := []
  draws := 0
  trace := []
  earlier := []
  replies := []

end Sys2Proof.Machine
end

