-- ==== Sys2Proof/Machine/Ops.lean ====
section
/-! DEFINITION. The shared operations: the bus port, ending an operation, the reset event, acceptance, and the eight
micro-steps of the sequencer (46_sequencer_steps.md R170 to R178). -/

namespace Sys2Proof.Machine

/-! ### The bus port -/

/-- The `k`-th byte the environment returns next: the listed one, or a free one (20_memory.md R43; log entry 9). -/
def answer (s : State) (k : Nat) : Byte :=
  s.answers.getD k (Config.freeAnswer (s.draws + (k - s.answers.length)))

/-- The environment has returned `n` bytes. -/
def consume (n : Nat) (s : State) : State :=
  { s with answers := s.answers.drop n, draws := s.draws + (n - s.answers.length) }

/-- `BusWrite(ADDR, [b0,b1,b2])` (20_memory.md R40, 30_encoding.md R66). Every frame send clears `PCNT`
(10_state.md R27, 60_exceptions.md R200; log entry 13). -/
def sendFrame (b0 b1 b2 : Byte) (s : State) : State :=
  { s with trace := s.trace ++ [.write (busAddr s.addr) b0 b1 b2], pcnt := 0 }

/-- `BusRead(ADDR, 1)` (20_memory.md R41): the byte is `answer s 0`, and it is latched in `ST` (10_state.md R27). -/
def busRead1 (s : State) : State :=
  { consume 1 s with
    trace := s.trace ++ [.read1 (busAddr s.addr) (answer s 0)]
    st := answer s 0 }

/-- `BusRead(ADDR, 3)` (20_memory.md R41): status, dataHigh, dataLow are `answer s 0`, `1`, `2`. -/
def busRead3 (s : State) : State :=
  { consume 3 s with
    trace := s.trace ++ [.read3 (busAddr s.addr) (answer s 0) (answer s 1) (answer s 2)]
    st := answer s 0 }

/-! ### Ending an operation (60_exceptions.md R193) -/

/-- Deliver the response, `BUSY <- 0`, `SEQ <- IDLE`, in one indivisible step; nothing else changes. This one
operation is the whole of what a failure does: nothing is saved and control goes nowhere (R193, R194, R196). That the six
latches keep their last values in `IDLE` is a DESIGN CHOICE, unsafe (log entry 23): 93_implementation_defined.md U12 leaves
them any value there. -/
def finish (r : Reply) (s : State) : State :=
  { s with replies := s.replies ++ [r], busy := false, seq := .idle }

/-- `respond OK(..)` (00_scope.md R10). -/
def respond (r : Result) (s : State) : Answer := .next (finish (.ok r) s)

/-- `raise E` (00_scope.md R10). -/
def raise (f : Failure) (s : State) : Answer := .next (finish (.fail f) s)

/-! ### End of a session, reset event -/

/-- `ADDR_SET <- 0`, `ADDR <- unspecified` (40_lifecycle.md R93; log entry 7). -/
def endSession (s : State) : State :=
  { s with addrSet := false, addr := Config.freeAddr s.draws, draws := s.draws + 1 }

/-- The reset event (70_reset_and_hazards.md R210): `MODE`, `ADDR_SET`, `BUSY`, `SEQ` as 10_state.md R35 says, `ADDR` and the
six latches unspecified (log entries 7, 8); no bus traffic, no response. The bus trace counts from here (00_scope.md R12), and
what it held moves to `earlier` (log entry 10). -/
def resetEvent (s : State) : State :=
  { s with
    mode := .normal
    addrSet := false
    busy := false
    seq := .idle
    addr := Config.freeAddr s.draws
    opr := Config.freeOpr s.draws
    cmd := Config.freeCmd s.draws
    txw := Config.freeTxw s.draws
    rxw := Config.freeRxw s.draws
    st := Config.freeSt s.draws
    pcnt := Config.freePcnt s.draws
    draws := s.draws + 1
    trace := []
    earlier := s.earlier ++ s.trace }

/-! ### Acceptance (46_sequencer_steps.md R171) -/

/-- An operation that will cause bus traffic is accepted: `BUSY <- 1`, `SEQ` takes its first state. -/
def enterBusy (q : Seq) (s : State) : State := { s with busy := true, seq := q }

/-- Accept a register read: `CMD <- cmd`, next `RD_TX`. -/
def beginRead (cmd : Byte) (s : State) : Answer := .next (enterBusy .rdTx { s with cmd := cmd })

/-- Accept a register write: `CMD <- cmd`, `TXW <- w`, next `WR_TX`. -/
def beginWrite (cmd : Byte) (w : Word) (s : State) : Answer :=
  .next (enterBusy .wrTx { s with cmd := cmd, txw := w })

/-- `if MODE = 0 then raise NotInCommandMode` before a register operation (60_exceptions.md R198). -/
def needCommandMode (k : State → Answer) (s : State) : Answer :=
  match s.mode with
  | .normal => raise .notInCommandMode s
  | .inCommandMode => k s

/-- `if ADDR_SET = 0 then raise NoAddress` before `ENTER` and `EXIT` (40_lifecycle.md R91, R92). -/
def needAddress (k : State → Answer) (s : State) : Answer :=
  if s.addrSet then k s else raise .noAddress s

/-! ### The micro-steps that cause a bus event -/

/-- `START_TX` (46_sequencer_steps.md R172). -/
def stepStartTx (s : State) : Answer :=
  .next { sendFrame Config.CMD_START 0x00 0x00 s with seq := .startRx }

/-- `START_RX` (46_sequencer_steps.md R173): one status byte, bit 7 decides. -/
def stepStartRx (s : State) : Answer :=
  if (statusDecode (answer s 0)).cm then
    respond .noValue { busRead1 s with mode := .inCommandMode }
  else
    raise .enterFailed (busRead1 s)

/-- `EXIT_TX` (46_sequencer_steps.md R174); `onExit` is what `TEARDOWN` adds. -/
def stepExitTx (onExit : State → State) (s : State) : Answer :=
  respond .noValue (onExit { sendFrame Config.CMD_EXIT 0x00 0x00 s with mode := .normal })

/-- `RD_TX` (46_sequencer_steps.md R175). -/
def stepRdTx (s : State) : Answer :=
  .next { sendFrame s.cmd 0x00 0x00 s with seq := .rdPoll }

/-- One read of a read poll: `BusRead(ADDR, 3)`, `PCNT <- PCNT + 1`. -/
def pollRead3 (s : State) : State := { busRead3 s with pcnt := s.pcnt + 1 }

/-- One read of a write poll: `BusRead(ADDR, 1)`, `PCNT <- PCNT + 1`. -/
def pollRead1 (s : State) : State := { busRead1 s with pcnt := s.pcnt + 1 }

/-- The word of the next 3-byte response (41_register_transactions.md R102). -/
def readWord (s : State) : Word := joinBytes (answer s 1) (answer s 2)

/-- `RD_POLL` (46_sequencer_steps.md R176); `onRead` is the continuation of R179 with the word read. -/
def stepRdPoll (onRead : Word → State → Answer) (s : State) : Answer :=
  if (statusDecode (answer s 0)).done then
    if (statusDecode (answer s 0)).ack then onRead (readWord s) { pollRead3 s with rxw := readWord s }
    else raise .deviceNack (pollRead3 s)
  else if s.pcnt + 1 < s.pollLimit then .next (pollRead3 s)
  else raise .timeout (pollRead3 s)

/-- `WR_TX` (46_sequencer_steps.md R177). -/
def stepWrTx (s : State) : Answer :=
  .next { sendFrame s.cmd (hi8 s.txw) (lo8 s.txw) s with seq := .wrPoll }

/-- `WR_POLL` (46_sequencer_steps.md R178). -/
def stepWrPoll (s : State) : Answer :=
  if (statusDecode (answer s 0)).done then
    if (statusDecode (answer s 0)).ack then respond .noValue (pollRead1 s)
    else raise .deviceNack (pollRead1 s)
  else if s.pcnt + 1 < s.pollLimit then .next (pollRead1 s)
  else raise .timeout (pollRead1 s)

/-! ### Continuations after a read (46_sequencer_steps.md R179) -/

/-- A config change goes on to its write transaction with the word `w`. -/
def continueWrite (w : Word) (s : State) : Answer :=
  .next { s with txw := w, cmd := Config.CMD_WR_CFG, seq := .wrTx }

/-- The operation has no row in 46_sequencer_steps.md R179 (log entry 14). -/
def noContinuation (_ : Word) (_ : State) : Answer := .fault .noContinuation

/-! ### One operation as the sequencer runs it -/

/-- What one operation adds to the sequencer: its row of 46_sequencer_steps.md R171 (`accept`), its row of R179
(`onRead`), and what it adds to `EXIT_TX` (R174, `onExit`). -/
structure Routine where
  accept : State → Answer
  onRead : Word → State → Answer := noContinuation
  onExit : State → State := id

/-- One micro-step of operation `i` (46_sequencer_steps.md R170): the step of the state `SEQ` names. In `IDLE` the
decoded request is latched in `OPR` and the operation's acceptance row runs. -/
def microStep (i : Instr) (r : Routine) (s : State) : Answer :=
  match s.seq with
  | .idle => r.accept { s with opr := .instr i }
  | .startTx => stepStartTx s
  | .startRx => stepStartRx s
  | .exitTx => stepExitTx r.onExit s
  | .rdTx => stepRdTx s
  | .rdPoll => stepRdPoll r.onRead s
  | .wrTx => stepWrTx s
  | .wrPoll => stepWrPoll s

/-- A register operation without a read transaction: write `w` with command byte `cmd`. -/
def writeRoutine (cmd : Byte) (w : Word) : Routine where
  accept := needCommandMode (beginWrite cmd w)

/-- A register operation that begins with a read transaction. -/
def readRoutine (cmd : Byte) (onRead : Word → State → Answer) : Routine where
  accept := needCommandMode (beginRead cmd)
  onRead := onRead

/-- `ThresholdRead(cmd)` (42_read_accessors.md R115). -/
def thresholdRead (cmd : Byte) : Routine :=
  readRoutine cmd fun v => respond (.wordHum v (bitsToHumidity v))

/-- `ThresholdWrite(cmd, h)` (43_threshold_change.md R125): the argument test comes before the mode test, and the word
is `Combine(OR, 0x0000, HumidityToBits(q))`. -/
def thresholdWrite (cmd : Byte) (h : HumIn) : Routine where
  accept := fun s =>
    match humArgument h with
    | none => raise .invalidArgument s
    | some q => needCommandMode (beginWrite cmd (combine .or 0x0000 (humidityToBits q))) s

/-- `CfgSet(B)` (44_config_change.md R135). -/
def cfgSet (b : Word) : Routine :=
  readRoutine Config.CMD_RD_CFG fun v => continueWrite (combine .or v b)

/-- `CfgClear(M)` (44_config_change.md R135). -/
def cfgClear (m : Word) : Routine :=
  readRoutine Config.CMD_RD_CFG fun v => continueWrite (combine .and v m)

end Sys2Proof.Machine
end

