-- ==== Sys2Proof/Machine/ConfigChange.lean ====
section
/-! DEFINITION. The customer-config change operations (44_config_change.md). The masks are the spec's literals, the bit-6
overlap of address and alarm-low polarity included (R137; 90_conflicts.md C2). -/

namespace Sys2Proof.Machine

/-- `CHGADDR a` (44_config_change.md R136): the range test before the mode test. `ADDR` is not written. -/
def execChgaddr (a : Byte) (s : State) : Answer :=
  microStep (.chgaddr a)
    { accept := fun t =>
        if addrTooBig a then raise .invalidArgument t
        else needCommandMode (beginRead Config.CMD_RD_CFG) t
      onRead := fun v => continueWrite (changedAddress v a) } s

/-- `ALPOL.SET` (44_config_change.md R138). -/
def execAlpolSet (s : State) : Answer := microStep .alpolSet (cfgSet Config.B_ALPOL) s

/-- `ALPOL.CLR` (44_config_change.md R139). -/
def execAlpolClr (s : State) : Answer := microStep .alpolClr (cfgClear Config.M_ALPOL_CLR) s

/-- `ALOUT.SET` (44_config_change.md R140). -/
def execAloutSet (s : State) : Answer := microStep .aloutSet (cfgSet Config.B_ALOUT) s

/-- `ALOUT.CLR` (44_config_change.md R141). -/
def execAloutClr (s : State) : Answer := microStep .aloutClr (cfgClear Config.M_ALOUT_CLR) s

/-- `AHPOL.SET` (44_config_change.md R142). -/
def execAhpolSet (s : State) : Answer := microStep .ahpolSet (cfgSet Config.B_AHPOL) s

/-- `AHPOL.CLR` (44_config_change.md R143). -/
def execAhpolClr (s : State) : Answer := microStep .ahpolClr (cfgClear Config.M_AHPOL_CLR) s

/-- `AHOUT.SET` (44_config_change.md R144). -/
def execAhoutSet (s : State) : Answer := microStep .ahoutSet (cfgSet Config.B_AHOUT) s

/-- `AHOUT.CLR` (44_config_change.md R145). -/
def execAhoutClr (s : State) : Answer := microStep .ahoutClr (cfgClear Config.M_AHOUT_CLR) s

/-- `SU3MS.SET` (44_config_change.md R146). -/
def execSu3msSet (s : State) : Answer := microStep .su3msSet (cfgSet Config.B_SU3MS) s

/-- `SU3MS.CLR` (44_config_change.md R147). -/
def execSu3msClr (s : State) : Answer := microStep .su3msClr (cfgClear Config.M_SU3MS_CLR) s

end Sys2Proof.Machine
end

