-- ==== Sys2Proof/Machine/Conversion.lean ====
section
/-! DEFINITION. The conversion operations (45_conversion_and_decode.md): no bus traffic, no failure, either mode. -/

namespace Sys2Proof.Machine

/-- `B2H raw` (45_conversion_and_decode.md R156). -/
def execB2h (raw : Word) (s : State) : Answer :=
  microStep (.b2h raw) { accept := respond (.hum (bitsToHumidity raw)) } s

/-- `H2B h` (45_conversion_and_decode.md R158). -/
def execH2b (h : HumIn) (s : State) : Answer :=
  microStep (.h2b h) { accept := respond (.word (humidityOperandToBits h)) } s

end Sys2Proof.Machine
end

