-- ==== Sys2Proof/Machine/Lifecycle.lean ====
section
/-! DEFINITION. The lifecycle operations (40_lifecycle.md). -/

namespace Sys2Proof.Machine

/-- `SETADDR a` (40_lifecycle.md R90): the range test before the mode test (60_exceptions.md R192). -/
def execSetaddr (a : Byte) (s : State) : Answer :=
  microStep (.setaddr a)
    { accept := fun t =>
        if addrTooBig a then raise .invalidArgument t
        else match t.mode with
          | .inCommandMode => raise .inCommandMode t
          | .normal => respond .noValue { t with addr := low7 a, addrSet := true } } s

/-- `ENTER` (40_lifecycle.md R91). -/
def execEnter (s : State) : Answer :=
  microStep .enter { accept := needAddress fun t => .next (enterBusy .startTx t) } s

/-- `EXIT` (40_lifecycle.md R92). -/
def execExit (s : State) : Answer :=
  microStep .exit { accept := needAddress fun t => .next (enterBusy .exitTx t) } s

/-- `TEARDOWN` (40_lifecycle.md R93): in Normal it ends in the accepting step, without a frame. -/
def execTeardown (s : State) : Answer :=
  microStep .teardown
    { accept := fun t =>
        match t.mode with
        | .normal => respond .noValue (endSession t)
        | .inCommandMode => .next (enterBusy .exitTx t)
      onExit := endSession } s

end Sys2Proof.Machine
end

