-- ==== Sys2Proof/Machine/ReadAccessors.lean ====
section
/-! DEFINITION. The read accessors (42_read_accessors.md). No sentinel value exists (R121). -/

namespace Sys2Proof.Machine

/-- `RDAHON` (42_read_accessors.md R116). -/
def execRdahon (s : State) : Answer := microStep .rdahon (thresholdRead Config.CMD_RD_AH_ON) s

/-- `RDAHOFF` (42_read_accessors.md R117). -/
def execRdahoff (s : State) : Answer := microStep .rdahoff (thresholdRead Config.CMD_RD_AH_OFF) s

/-- `RDALON` (42_read_accessors.md R118). -/
def execRdalon (s : State) : Answer := microStep .rdalon (thresholdRead Config.CMD_RD_AL_ON) s

/-- `RDALOFF` (42_read_accessors.md R119). -/
def execRdaloff (s : State) : Answer := microStep .rdaloff (thresholdRead Config.CMD_RD_AL_OFF) s

/-- `RDCFG` (42_read_accessors.md R120): the raw word, no humidity. -/
def execRdcfg (s : State) : Answer :=
  microStep .rdcfg (readRoutine Config.CMD_RD_CFG fun v => respond (.word v)) s

end Sys2Proof.Machine
end

