-- ==== Sys2Proof/Machine/RegTransactions.lean ====
section
/-! DEFINITION. The primitive register operations (41_register_transactions.md). The command byte is not checked
(92_eei_decisions.md D23). -/

namespace Sys2Proof.Machine

/-- `RDREG cmd` (41_register_transactions.md R104). -/
def execRdreg (cmd : Byte) (s : State) : Answer :=
  microStep (.rdreg cmd) (readRoutine cmd fun v => respond (.word v)) s

/-- `WRREG.OR cmd, old, new` (41_register_transactions.md R106). -/
def execWrregOr (cmd : Byte) (old new : Word) (s : State) : Answer :=
  microStep (.wrregOr cmd old new) (writeRoutine cmd (combine .or old new)) s

/-- `WRREG.AND cmd, old, mask` (41_register_transactions.md R107). -/
def execWrregAnd (cmd : Byte) (old mask : Word) (s : State) : Answer :=
  microStep (.wrregAnd cmd old mask) (writeRoutine cmd (combine .and old mask)) s

end Sys2Proof.Machine
end

