-- ==== Sys2Proof/Machine/ThresholdChange.lean ====
section
/-! DEFINITION. The threshold change operations (43_threshold_change.md). No relation between the four thresholds is
enforced (R130). -/

namespace Sys2Proof.Machine

/-- `WRAHON h` (43_threshold_change.md R126). -/
def execWrahon (h : HumIn) (s : State) : Answer :=
  microStep (.wrahon h) (thresholdWrite Config.CMD_WR_AH_ON h) s

/-- `WRAHOFF h` (43_threshold_change.md R127). -/
def execWrahoff (h : HumIn) (s : State) : Answer :=
  microStep (.wrahoff h) (thresholdWrite Config.CMD_WR_AH_OFF h) s

/-- `WRALON h` (43_threshold_change.md R128). -/
def execWralon (h : HumIn) (s : State) : Answer :=
  microStep (.wralon h) (thresholdWrite Config.CMD_WR_AL_ON h) s

/-- `WRALOFF h` (43_threshold_change.md R129). -/
def execWraloff (h : HumIn) (s : State) : Answer :=
  microStep (.wraloff h) (thresholdWrite Config.CMD_WR_AL_OFF h) s

end Sys2Proof.Machine
end

