-- ==== Sys2Proof/Machine/Dispatch.lean ====
section
/-! DEFINITION. One arm for each operation of 30_encoding.md R63: its meaning, one micro-step of it. -/

namespace Sys2Proof.Machine

def exec (i : Instr) (s : State) : Host.Outcome State Fault Refusal :=
  match i with
  | .setaddr a => Sys2Proof.Machine.execSetaddr a s
  | .enter => Sys2Proof.Machine.execEnter s
  | .exit => Sys2Proof.Machine.execExit s
  | .teardown => Sys2Proof.Machine.execTeardown s
  | .rdreg cmd => Sys2Proof.Machine.execRdreg cmd s
  | .wrregOr cmd old new => Sys2Proof.Machine.execWrregOr cmd old new s
  | .wrregAnd cmd old mask => Sys2Proof.Machine.execWrregAnd cmd old mask s
  | .rdahon => Sys2Proof.Machine.execRdahon s
  | .rdahoff => Sys2Proof.Machine.execRdahoff s
  | .rdalon => Sys2Proof.Machine.execRdalon s
  | .rdaloff => Sys2Proof.Machine.execRdaloff s
  | .rdcfg => Sys2Proof.Machine.execRdcfg s
  | .wrahon h => Sys2Proof.Machine.execWrahon h s
  | .wrahoff h => Sys2Proof.Machine.execWrahoff h s
  | .wralon h => Sys2Proof.Machine.execWralon h s
  | .wraloff h => Sys2Proof.Machine.execWraloff h s
  | .chgaddr a => Sys2Proof.Machine.execChgaddr a s
  | .alpolSet => Sys2Proof.Machine.execAlpolSet s
  | .alpolClr => Sys2Proof.Machine.execAlpolClr s
  | .aloutSet => Sys2Proof.Machine.execAloutSet s
  | .aloutClr => Sys2Proof.Machine.execAloutClr s
  | .ahpolSet => Sys2Proof.Machine.execAhpolSet s
  | .ahpolClr => Sys2Proof.Machine.execAhpolClr s
  | .ahoutSet => Sys2Proof.Machine.execAhoutSet s
  | .ahoutClr => Sys2Proof.Machine.execAhoutClr s
  | .su3msSet => Sys2Proof.Machine.execSu3msSet s
  | .su3msClr => Sys2Proof.Machine.execSu3msClr s
  | .b2h raw => Sys2Proof.Machine.execB2h raw s
  | .h2b h => Sys2Proof.Machine.execH2b h s

end Sys2Proof.Machine
end

