-- ==== Sys2Proof/Decode.lean ====
section
/-! DEFINITION. The request decoder and, after it, the encoder (30_encoding.md R60, R61, R63, R64, R80). -/

namespace Sys2Proof

/-- `OP = REQ[47:40]` (30_encoding.md R60). -/
def Request.op (r : Request) : Byte := r.req.extractLsb' 40 8

/-- `A8 = REQ[39:32]` (30_encoding.md R60). -/
def Request.a8 (r : Request) : Byte := r.req.extractLsb' 32 8

/-- `W0 = REQ[31:16]` (30_encoding.md R60). -/
def Request.w0 (r : Request) : Word := r.req.extractLsb' 16 16

/-- `W1 = REQ[15:0]` (30_encoding.md R60). -/
def Request.w1 (r : Request) : Word := r.req.extractLsb' 0 16

/-- The opcode map of 30_encoding.md R63. Every other value of `OP` is rejected as `illegalOp` (R64); a field
that the operation's format (R61) does not name is not looked at. -/
def decode (r : Request) : Decoded :=
  match r.op.toNat with
  | 0x01 => .instr (.setaddr r.a8)
  | 0x02 => .instr .enter
  | 0x03 => .instr .exit
  | 0x04 => .instr .teardown
  | 0x10 => .instr (.rdreg r.a8)
  | 0x11 => .instr (.wrregOr r.a8 r.w0 r.w1)
  | 0x12 => .instr (.wrregAnd r.a8 r.w0 r.w1)
  | 0x20 => .instr .rdahon
  | 0x21 => .instr .rdahoff
  | 0x22 => .instr .rdalon
  | 0x23 => .instr .rdaloff
  | 0x24 => .instr .rdcfg
  | 0x30 => .instr (.wrahon r.hreq)
  | 0x31 => .instr (.wrahoff r.hreq)
  | 0x32 => .instr (.wralon r.hreq)
  | 0x33 => .instr (.wraloff r.hreq)
  | 0x40 => .instr (.chgaddr r.a8)
  | 0x41 => .instr .alpolSet
  | 0x42 => .instr .alpolClr
  | 0x43 => .instr .aloutSet
  | 0x44 => .instr .aloutClr
  | 0x45 => .instr .ahpolSet
  | 0x46 => .instr .ahpolClr
  | 0x47 => .instr .ahoutSet
  | 0x48 => .instr .ahoutClr
  | 0x49 => .instr .su3msSet
  | 0x4A => .instr .su3msClr
  | 0x50 => .instr (.b2h r.w0)
  | 0x51 => .instr (.h2b r.hreq)
  | _ => .illegalOp r.op

/-- The lane `HREQ` of a request whose lane carries no operand: all lane bits 0, the number 0 (log entry 15). -/
def unusedHum : HumIn := some 0

/-- The instruction of a table word: `w` is the word `REQ` itself, bit 0 its least significant bit, the bits from
`nbits` up 0, and the lane `HREQ` at `unusedHum` (log entry 15). -/
def decodeTableWord (nbits w : Nat) : Option Instr :=
  match decode ⟨BitVec.ofNat 48 (w % 2 ^ nbits), unusedHum⟩ with
  | .instr i => some i
  | .illegalOp _ => none

/-- `REQ = OP ‖ A8 ‖ W0 ‖ W1` beside the lane `HREQ` (30_encoding.md R60). -/
def Request.pack (op a8 : Byte) (w0 w1 : Word) (h : HumIn) : Request :=
  ⟨op ++ a8 ++ w0 ++ w1, h⟩

/-- A request of format `N`: unused fields zero (30_encoding.md R80). -/
def Request.ofN (op : Byte) : Request := .pack op 0 0 0 unusedHum

/-- A request of format `A` or `R`. -/
def Request.ofA (op a8 : Byte) : Request := .pack op a8 0 0 unusedHum

/-- A request of format `W`. -/
def Request.ofW (op a8 : Byte) (w0 w1 : Word) : Request := .pack op a8 w0 w1 unusedHum

/-- A request of format `C`. -/
def Request.ofC (op : Byte) (w0 : Word) : Request := .pack op 0 w0 0 unusedHum

/-- A request of format `H`. -/
def Request.ofH (op : Byte) (h : HumIn) : Request := .pack op 0 0 0 h

/-- The request an assembler line denotes (30_encoding.md R80): the opcode of R63, the operands in the fields of
their format (R61), every unused field zero. -/
def encode : Instr → Request
  | .setaddr a => .ofA 0x01 a
  | .enter => .ofN 0x02
  | .exit => .ofN 0x03
  | .teardown => .ofN 0x04
  | .rdreg cmd => .ofA 0x10 cmd
  | .wrregOr cmd old new => .ofW 0x11 cmd old new
  | .wrregAnd cmd old mask => .ofW 0x12 cmd old mask
  | .rdahon => .ofN 0x20
  | .rdahoff => .ofN 0x21
  | .rdalon => .ofN 0x22
  | .rdaloff => .ofN 0x23
  | .rdcfg => .ofN 0x24
  | .wrahon h => .ofH 0x30 h
  | .wrahoff h => .ofH 0x31 h
  | .wralon h => .ofH 0x32 h
  | .wraloff h => .ofH 0x33 h
  | .chgaddr a => .ofA 0x40 a
  | .alpolSet => .ofN 0x41
  | .alpolClr => .ofN 0x42
  | .aloutSet => .ofN 0x43
  | .aloutClr => .ofN 0x44
  | .ahpolSet => .ofN 0x45
  | .ahpolClr => .ofN 0x46
  | .ahoutSet => .ofN 0x47
  | .ahoutClr => .ofN 0x48
  | .su3msSet => .ofN 0x49
  | .su3msClr => .ofN 0x4A
  | .b2h raw => .ofC 0x50 raw
  | .h2b h => .ofH 0x51 h

/-- The operand format of each operation (30_encoding.md R61). -/
def Instr.format : Instr → Format
  | .setaddr _ | .chgaddr _ => .a
  | .enter | .exit | .teardown => .n
  | .rdreg _ => .r
  | .wrregOr _ _ _ | .wrregAnd _ _ _ => .w
  | .rdahon | .rdahoff | .rdalon | .rdaloff | .rdcfg => .n
  | .wrahon _ | .wrahoff _ | .wralon _ | .wraloff _ | .h2b _ => .h
  | .alpolSet | .alpolClr | .aloutSet | .aloutClr | .ahpolSet => .n
  | .ahpolClr | .ahoutSet | .ahoutClr | .su3msSet | .su3msClr => .n
  | .b2h _ => .c

/-- The fields each format reads (30_encoding.md R61). -/
def Format.readsA8 : Format → Bool
  | .a | .r | .w => true
  | .n | .c | .h => false

/-- The fields each format reads (30_encoding.md R61). -/
def Format.readsW0 : Format → Bool
  | .w | .c => true
  | .n | .a | .r | .h => false

/-- The fields each format reads (30_encoding.md R61). -/
def Format.readsW1 : Format → Bool
  | .w => true
  | .n | .a | .r | .c | .h => false

/-- The fields each format reads (30_encoding.md R61). -/
def Format.readsHreq : Format → Bool
  | .h => true
  | .n | .a | .r | .w | .c => false

end Sys2Proof
end

