-- ==== Sys2Proof/Machine/HostPort.lean ====
section
/-! DEFINITION. The host port: what one step of the machine is for (60_exceptions.md R197, 46_sequencer_steps.md R171, R181,
70_reset_and_hazards.md R210). -/

namespace Sys2Proof.Machine

/-- What the next step does. -/
inductive Turn where
  /-- The step is complete without an operation: reset event, rest, quiet turn, or an illegal `OP`. -/
  | settle (s : State)
  /-- The step is one micro-step of operation `i` in state `s`. -/
  | run (i : Instr) (s : State)
  /-- A state other than `IDLE` without a decoded operation (log entry 14). -/
  | stray
  deriving DecidableEq, Repr

/-- The host input is used up. -/
def takeInput (s : State) : State := { s with host := s.host.tail }

/-- A request is accepted (46_sequencer_steps.md R171): it is decoded, once (20_memory.md R57). An illegal `OP` ends in
this step with `IllegalOp`, no bus traffic and no change of the session registers (30_encoding.md R64). -/
def acceptRequest (r : Request) (s : State) : Turn :=
  match decode r with
  | .instr i => .run i (takeInput s)
  | .illegalOp op => .settle (finish (.fail .illegalOp) { takeInput s with opr := .illegalOp op })

/-- The engine's own turn while an operation is in progress: its next micro-step (46_sequencer_steps.md R181). -/
def resume (s : State) : Turn :=
  match s.opr with
  | .instr i => .run i s
  | .illegalOp _ => .stray

/-- The next step. A reset event comes first, whatever `SEQ` is (log entry 22). A request is accepted when `SEQ = IDLE`
(R171) and `BUSY = 0` (R197), and is held otherwise. In `IDLE` with nothing presented the engine rests (R181), its latches
kept (DESIGN CHOICE, unsafe: log entry 23). -/
def turn (s : State) : Turn :=
  match s.host, s.seq with
  | .reset :: _, _ => .settle (resetEvent (takeInput s))
  | .request r :: _, .idle => if s.busy then .settle s else acceptRequest r s
  | .quiet :: _, .idle => .settle (takeInput s)
  | [], .idle => .settle s
  | .quiet :: _, _ => resume (takeInput s)
  | _, _ => resume s

/-- Present the word `w` of `nbits` bits at the front of the host port of an idle engine (log entries 11, 15). -/
def present (nbits w : Nat) (s : State) : State :=
  { s with
    host := .request ⟨BitVec.ofNat 48 (w % 2 ^ nbits), unusedHum⟩ :: s.host
    seq := .idle
    busy := false }

end Sys2Proof.Machine
end

