-- ==== Sys2Proof/Machine/Step.lean ====
section
/-! DEFINITION. One step of the machine: one micro-step of the sequencer, or a turn that belongs to no operation. -/

namespace Sys2Proof.Machine

/-- One step (46_sequencer_steps.md R170, R171, R181). -/
def step (s : State) : Host.Outcome State Fault Refusal :=
  match turn s with
  | .settle t => .next t
  | .run i t => exec i t
  | .stray => .fault .noOperation

/-- `s` with the request word `w` presented on the host port of an idle engine, so that the next step accepts it. -/
def State.withFetchWord (s : State) (nbits w : Nat) : State := present nbits w s

end Sys2Proof.Machine
end

