-- ==== Sys2Proof/Machine/BigStep.lean ====
section
/-! DEFINITION. The big-step meaning of every operation (00_scope.md R13), written from the pseudocode of 40_lifecycle.md to
45_conversion_and_decode.md and independently of the micro-steps: the whole operation from the accepted request to
its response. It does not touch the working latches, which the micro-steps alone need (10_state.md R27). -/

namespace Sys2Proof.Machine

/-- `Poll(1)` with `k` reads left (41_register_transactions.md R101): the final status byte, or `none` for `TimedOut`. -/
def poll1 : Nat → State → Option Byte × State
  | 0, s => (none, s)
  | k + 1, s =>
    if (statusDecode (answer s 0)).done then (some (answer s 0), busRead1 s) else poll1 k (busRead1 s)

/-- `Poll(3)` with `k` reads left (41_register_transactions.md R101): the final status byte with the data word of the
same read, or `none` for `TimedOut`. -/
def poll3 : Nat → State → Option (Byte × Word) × State
  | 0, s => (none, s)
  | k + 1, s =>
    if (statusDecode (answer s 0)).done then
      (some (answer s 0, readWord s), busRead3 s)
    else poll3 k (busRead3 s)

/-- `RegRead(cmd)` (41_register_transactions.md R102). -/
def regRead (cmd : Byte) (s : State) : Except Failure Word × State :=
  match poll3 s.pollLimit (sendFrame cmd 0x00 0x00 s) with
  | (none, t) => (.error .timeout, t)
  | (some (r0, v), t) => if (statusDecode r0).ack then (.ok v, t) else (.error .deviceNack, t)

/-- `RegWrite(cmd, w)` (41_register_transactions.md R103). -/
def regWrite (cmd : Byte) (w : Word) (s : State) : Except Failure Unit × State :=
  match poll1 s.pollLimit (sendFrame cmd (hi8 w) (lo8 w) s) with
  | (none, t) => (.error .timeout, t)
  | (some r0, t) => if (statusDecode r0).ack then (.ok (), t) else (.error .deviceNack, t)

/-- `BUSY <- 1`. -/
def setBusy (s : State) : State := { s with busy := true }

/-- `if MODE = 0 then raise NotInCommandMode`, then `BUSY <- 1` and the rest. -/
def inCommandModeOnly (k : State → State) (s : State) : State :=
  match s.mode with
  | .normal => finish (.fail .notInCommandMode) s
  | .inCommandMode => k (setBusy s)

/-- Read a register and respond with what `result` makes of the word (R104, R115, R120). -/
def readAndRespond (cmd : Byte) (result : Word → Result) : State → State :=
  inCommandModeOnly fun s =>
    match regRead cmd s with
    | (.error e, t) => finish (.fail e) t
    | (.ok v, t) => finish (.ok (result v)) t

/-- Write a word and respond (the last lines of R106, R107, R125, R135, R136). -/
def writeAndRespond (cmd : Byte) (w : Word) (s : State) : State :=
  match regWrite cmd w s with
  | (.error e, t) => finish (.fail e) t
  | (.ok (), t) => finish (.ok .noValue) t

/-- Read customer-config, write back what `change` makes of it, and respond; a failed read sends no write frame
(44_config_change.md R135, R136). -/
def readModifyWrite (change : Word → Word) : State → State :=
  inCommandModeOnly fun s =>
    match regRead Config.CMD_RD_CFG s with
    | (.error e, t) => finish (.fail e) t
    | (.ok v, t) => writeAndRespond Config.CMD_WR_CFG (change v) t

/-- `ThresholdRead(cmd)` (42_read_accessors.md R115). -/
def bigThresholdRead (cmd : Byte) : State → State :=
  readAndRespond cmd fun v => .wordHum v (bitsToHumidity v)

/-- `ThresholdWrite(cmd, h)` (43_threshold_change.md R125). -/
def bigThresholdWrite (cmd : Byte) (h : HumIn) (s : State) : State :=
  match humInVal h with
  | none => finish (.fail .invalidArgument) s
  | some q =>
    if q < 0 ∨ (Config.HUM_FULL : Rat) < q then finish (.fail .invalidArgument) s
    else inCommandModeOnly (writeAndRespond cmd (combine .or 0x0000 (humidityToBits q))) s

/-- `CfgSet(B)` (44_config_change.md R135). -/
def bigCfgSet (b : Word) : State → State := readModifyWrite fun v => combine .or v b

/-- `CfgClear(M)` (44_config_change.md R135). -/
def bigCfgClear (m : Word) : State → State := readModifyWrite fun v => combine .and v m

/-- `SETADDR a` (40_lifecycle.md R90). -/
def bigSetaddr (a : Byte) (s : State) : State :=
  if addrTooBig a then finish (.fail .invalidArgument) s
  else if s.mode = .inCommandMode then finish (.fail .inCommandMode) s
  else finish (.ok .noValue) { s with addr := low7 a, addrSet := true }

/-- `ENTER` (40_lifecycle.md R91). -/
def bigEnter (s : State) : State :=
  if s.addrSet = false then finish (.fail .noAddress) s
  else
    let t := sendFrame Config.CMD_START 0x00 0x00 (setBusy s)
    if (statusDecode (answer t 0)).cm then finish (.ok .noValue) { busRead1 t with mode := .inCommandMode }
    else finish (.fail .enterFailed) (busRead1 t)

/-- `EXIT` (40_lifecycle.md R92). -/
def bigExit (s : State) : State :=
  if s.addrSet = false then finish (.fail .noAddress) s
  else finish (.ok .noValue) { sendFrame Config.CMD_EXIT 0x00 0x00 (setBusy s) with mode := .normal }

/-- `TEARDOWN` (40_lifecycle.md R93). -/
def bigTeardown (s : State) : State :=
  match s.mode with
  | .normal => finish (.ok .noValue) (endSession s)
  | .inCommandMode =>
    finish (.ok .noValue)
      (endSession { sendFrame Config.CMD_EXIT 0x00 0x00 (setBusy s) with mode := .normal })

/-- `CHGADDR a` (44_config_change.md R136). -/
def bigChgaddr (a : Byte) (s : State) : State :=
  if addrTooBig a then finish (.fail .invalidArgument) s
  else readModifyWrite (fun v => changedAddress v a) s

/-- The big-step meaning of operation `i` (00_scope.md R13): session state, environment and observations at acceptance
to the same at the response. -/
def bigStep (i : Instr) (s : State) : State :=
  match i with
  | .setaddr a => bigSetaddr a s
  | .enter => bigEnter s
  | .exit => bigExit s
  | .teardown => bigTeardown s
  | .rdreg cmd => readAndRespond cmd .word s
  | .wrregOr cmd old new => inCommandModeOnly (writeAndRespond cmd (combine .or old new)) s
  | .wrregAnd cmd old mask => inCommandModeOnly (writeAndRespond cmd (combine .and old mask)) s
  | .rdahon => bigThresholdRead Config.CMD_RD_AH_ON s
  | .rdahoff => bigThresholdRead Config.CMD_RD_AH_OFF s
  | .rdalon => bigThresholdRead Config.CMD_RD_AL_ON s
  | .rdaloff => bigThresholdRead Config.CMD_RD_AL_OFF s
  | .rdcfg => readAndRespond Config.CMD_RD_CFG .word s
  | .wrahon h => bigThresholdWrite Config.CMD_WR_AH_ON h s
  | .wrahoff h => bigThresholdWrite Config.CMD_WR_AH_OFF h s
  | .wralon h => bigThresholdWrite Config.CMD_WR_AL_ON h s
  | .wraloff h => bigThresholdWrite Config.CMD_WR_AL_OFF h s
  | .chgaddr a => bigChgaddr a s
  | .alpolSet => bigCfgSet Config.B_ALPOL s
  | .alpolClr => bigCfgClear Config.M_ALPOL_CLR s
  | .aloutSet => bigCfgSet Config.B_ALOUT s
  | .aloutClr => bigCfgClear Config.M_ALOUT_CLR s
  | .ahpolSet => bigCfgSet Config.B_AHPOL s
  | .ahpolClr => bigCfgClear Config.M_AHPOL_CLR s
  | .ahoutSet => bigCfgSet Config.B_AHOUT s
  | .ahoutClr => bigCfgClear Config.M_AHOUT_CLR s
  | .su3msSet => bigCfgSet Config.B_SU3MS s
  | .su3msClr => bigCfgClear Config.M_SU3MS_CLR s
  | .b2h raw => finish (.ok (.hum (bitsToHumidity raw))) s
  | .h2b h => finish (.ok (.word (humidityOperandToBits h))) s

/-- The state without the six working latches, none of which "has an observable value at the start of an operation"
(10_state.md R27). -/
def State.view (s : State) : State :=
  { s with opr := .illegalOp 0, cmd := 0, txw := 0, rxw := 0, st := 0, pcnt := 0 }

/-- At most `n` micro-steps of operation `i`, ending at its response (the first state with `SEQ = IDLE`). -/
def operate (i : Instr) : Nat → State → Answer
  | 0, s => .next s
  | n + 1, s =>
    match exec i s with
    | .next t => if t.seq = .idle then .next t else operate i n t
    | .fault f => .fault f
    | .refused r => .refused r

end Sys2Proof.Machine
end

