-- ==== Sys2Proof/Machine/Response.lean ====
section
/-! DEFINITION. The response on the host port (30_encoding.md R62) and the outcome codes (R72). -/

namespace Sys2Proof.Machine

/-- The code of a failure outcome (30_encoding.md R72). -/
def Failure.code : Failure → BitVec 4
  | .invalidArgument => 0x1
  | .notInCommandMode => 0x2
  | .deviceNack => 0x3
  | .timeout => 0x4
  | .enterFailed => 0x5
  | .noAddress => 0x6
  | .inCommandMode => 0x7
  | .illegalOp => 0x8

/-- `OUTCOME`: 0 for `OK` (30_encoding.md R72). -/
def Reply.outcome : Reply → BitVec 4
  | .ok _ => 0x0
  | .fail f => f.code

/-- The word a response carries, if any. -/
def Reply.word? : Reply → Option Word
  | .ok (.word w) => some w
  | .ok (.wordHum w _) => some w
  | .ok .noValue => none
  | .ok (.hum _) => none
  | .fail _ => none

/-- The humidity a response carries, if any, before `hum_out_enc`. -/
def Reply.humidity? : Reply → Option Rat
  | .ok (.wordHum _ q) => some q
  | .ok (.hum q) => some q
  | .ok .noValue => none
  | .ok (.word _) => none
  | .fail _ => none

/-- `VALID`. -/
def Reply.valid (r : Reply) : Bool := r.word?.isSome

/-- `VALUE`: `0x0000` when `VALID = 0`. -/
def Reply.value (r : Reply) : Word := r.word?.getD 0x0000

/-- `HVALID`. -/
def Reply.hvalid (r : Reply) : Bool := r.humidity?.isSome

/-- `HRSP`: `hum_out_enc(0)` when `HVALID = 0`. -/
def Reply.hrsp (r : Reply) : HumOut := Config.humOutEnc (r.humidity?.getD 0)

/-- `RSP`: `OUTCOME = RSP[20:17]`, `VALID = RSP[16]`, `VALUE = RSP[15:0]`. -/
def Reply.rsp (r : Reply) : BitVec 21 := r.outcome ++ BitVec.ofBool r.valid ++ r.value

/-- The decoded-field lanes: `CfgDecode(VALUE)`, always driven. -/
def Reply.fields (r : Reply) : CfgFields := cfgDecode r.value

/-- All lanes of one response. -/
structure Response where
  rsp : BitVec 21
  hrsp : HumOut
  hvalid : Bool
  fields : CfgFields
  deriving DecidableEq, Repr

/-- The lanes as the host sees them (30_encoding.md R62). -/
def Reply.response (r : Reply) : Response := ⟨r.rsp, r.hrsp, r.hvalid, r.fields⟩

end Sys2Proof.Machine
end

