-- ==== Sys2Proof/Safety.lean ====
section
/-! DEFINITION. The terms claims are stated in: which sequencer states belong to which operation, the invariant of the
machine (10_state.md R25, R26), and the outcome and bus-event tables (60_exceptions.md R191, 46_sequencer_steps.md R180). -/

namespace Sys2Proof

/-- The shape of an operation's run: the states of 46_sequencer_steps.md R171 and R179 it passes through. -/
inductive Shape where
  /-- Ends in the accepting step: `SETADDR`, `B2H`, `H2B`. -/
  | immediate
  /-- `ENTER`: `START_TX`, `START_RX`. -/
  | enter
  /-- `EXIT` and `TEARDOWN`: `EXIT_TX`. -/
  | exit
  /-- One read transaction: `RD_TX`, `RD_POLL`. -/
  | read
  /-- One write transaction: `WR_TX`, `WR_POLL`. -/
  | write
  /-- A read transaction, then a write transaction. -/
  | change
  deriving DecidableEq, Repr

/-- The shape of each operation. -/
def Instr.shape : Instr → Shape
  | .setaddr _ | .b2h _ | .h2b _ => .immediate
  | .enter => .enter
  | .exit | .teardown => .exit
  | .rdreg _ | .rdahon | .rdahoff | .rdalon | .rdaloff | .rdcfg => .read
  | .wrregOr _ _ _ | .wrregAnd _ _ _ => .write
  | .wrahon _ | .wrahoff _ | .wralon _ | .wraloff _ => .write
  | .chgaddr _ | .alpolSet | .alpolClr | .aloutSet | .aloutClr => .change
  | .ahpolSet | .ahpolClr | .ahoutSet | .ahoutClr | .su3msSet | .su3msClr => .change

/-- The 23 register operations (60_exceptions.md R190). -/
def Instr.isRegisterOp (i : Instr) : Bool :=
  match i.shape with
  | .read | .write | .change => true
  | .immediate | .enter | .exit => false

open Sys2Proof.Machine

/-- The sequencer states an operation of a shape passes through (46_sequencer_steps.md R170, R171, R179). -/
def Shape.admits : Shape → Seq → Bool
  | _, .idle => true
  | .enter, .startTx | .enter, .startRx => true
  | .exit, .exitTx => true
  | .read, .rdTx | .read, .rdPoll => true
  | .write, .wrTx | .write, .wrPoll => true
  | .change, .rdTx | .change, .rdPoll | .change, .wrTx | .change, .wrPoll => true
  | .immediate, .startTx | .immediate, .startRx | .immediate, .exitTx => false
  | .immediate, .rdTx | .immediate, .rdPoll | .immediate, .wrTx | .immediate, .wrPoll => false
  | .enter, .exitTx | .enter, .rdTx | .enter, .rdPoll | .enter, .wrTx | .enter, .wrPoll => false
  | .exit, .startTx | .exit, .startRx | .exit, .rdTx | .exit, .rdPoll | .exit, .wrTx | .exit, .wrPoll => false
  | .read, .startTx | .read, .startRx | .read, .exitTx | .read, .wrTx | .read, .wrPoll => false
  | .write, .startTx | .write, .startRx | .write, .exitTx | .write, .rdTx | .write, .rdPoll => false
  | .change, .startTx | .change, .startRx | .change, .exitTx => false

/-- Operation `i` can be in sequencer state `q`. -/
def Instr.admits (i : Instr) (q : Seq) : Bool := i.shape.admits q

/-- A state of a register transaction. -/
def inTransaction : Seq → Bool
  | .rdTx | .rdPoll | .wrTx | .wrPoll => true
  | .idle | .startTx | .startRx | .exitTx => false

/-- A state of a busy poll. -/
def inPoll : Seq → Bool
  | .rdPoll | .wrPoll => true
  | .idle | .startTx | .startRx | .exitTx | .rdTx | .wrTx => false

/-- The invariant of the machine. -/
structure Machine.State.Inv (s : State) : Prop where
  /-- `POLL_LIMIT >= 1` (00_scope.md R7). -/
  limit : 1 ≤ s.pollLimit
  /-- `BUSY = 1` exactly while `SEQ != IDLE` (10_state.md R25). -/
  busySeq : s.busy = true ↔ s.seq ≠ .idle
  /-- `MODE = 1` implies `ADDR_SET = 1` (10_state.md R26 (b)). -/
  modeAddr : s.mode = .inCommandMode → s.addrSet = true
  /-- Every bus event happens with `ADDR_SET = 1` (10_state.md R26 (c)). -/
  busAddrSet : s.seq ≠ .idle → s.addrSet = true
  /-- Register transactions run in command mode only (60_exceptions.md R198). -/
  transactionMode : inTransaction s.seq = true → s.mode = .inCommandMode
  /-- `SEQ` is a state of the operation in `OPR` (46_sequencer_steps.md R170 to R179). -/
  oprFits : s.seq ≠ .idle → ∃ i, s.opr = .instr i ∧ i.admits s.seq = true
  /-- A poll in progress has reads left (46_sequencer_steps.md R176, R178). -/
  pollCount : inPoll s.seq = true → s.pcnt < s.pollLimit

/-- The failure outcomes each operation can end with (60_exceptions.md R191). -/
def Instr.failures (i : Instr) : List Failure :=
  match i with
  | .setaddr _ => [.invalidArgument, .inCommandMode]
  | .enter => [.enterFailed, .noAddress]
  | .exit => [.noAddress]
  | .teardown => []
  | .rdreg _ | .wrregOr _ _ _ | .wrregAnd _ _ _ => [.notInCommandMode, .deviceNack, .timeout]
  | .rdahon | .rdahoff | .rdalon | .rdaloff | .rdcfg => [.notInCommandMode, .deviceNack, .timeout]
  | .wrahon _ | .wrahoff _ | .wralon _ | .wraloff _ => [.invalidArgument, .notInCommandMode, .deviceNack, .timeout]
  | .chgaddr _ => [.invalidArgument, .notInCommandMode, .deviceNack, .timeout]
  | .alpolSet | .alpolClr | .aloutSet | .aloutClr | .ahpolSet => [.notInCommandMode, .deviceNack, .timeout]
  | .ahpolClr | .ahoutSet | .ahoutClr | .su3msSet | .su3msClr => [.notInCommandMode, .deviceNack, .timeout]
  | .b2h _ | .h2b _ => []

/-- The humidity operand is not a number, below 0 or above 100 (60_exceptions.md R190, code 0x1). -/
def badHumidity (h : HumIn) : Bool :=
  match h with
  | none => true
  | some q => decide (q < 0 ∨ 100 < q)

/-- The argument test of the operation fails (60_exceptions.md R190, code 0x1). -/
def Instr.badArgument (i : Instr) : Bool :=
  match i with
  | .setaddr a | .chgaddr a => decide (0x7F < a.toNat)
  | .wrahon h | .wrahoff h | .wralon h | .wraloff h => badHumidity h
  | .enter | .exit | .teardown | .rdreg _ | .wrregOr _ _ _ | .wrregAnd _ _ _ => false
  | .rdahon | .rdahoff | .rdalon | .rdaloff | .rdcfg => false
  | .alpolSet | .alpolClr | .aloutSet | .aloutClr | .ahpolSet => false
  | .ahpolClr | .ahoutSet | .ahoutClr | .su3msSet | .su3msClr | .b2h _ | .h2b _ => false

/-- The operation ends without bus traffic when accepted in `s`: it needs none, its argument test fails, or the state
tests of 60_exceptions.md R192 (3) refuse it; `TEARDOWN` in Normal (46_sequencer_steps.md R180, first row). -/
def Instr.isSilent (i : Instr) (s : State) : Bool :=
  match i.shape with
  | .immediate => true
  | .enter => !s.addrSet
  | .exit => if i = .teardown then decide (s.mode = .normal) else !s.addrSet
  | .read | .write | .change => i.badArgument || decide (s.mode = .normal)

/-- The most bus events an operation accepted in `s` causes (46_sequencer_steps.md R180, column "most"). -/
def Instr.mostBusEvents (i : Instr) (s : State) : Nat :=
  if i.isSilent s then 0 else
    match i.shape with
    | .immediate => 0
    | .enter => 2
    | .exit => 1
    | .read => 1 + s.pollLimit
    | .write => 1 + s.pollLimit
    | .change => 2 + 2 * s.pollLimit

/-- The 29 assigned values of `OP` (30_encoding.md R63); the 227 others are illegal (R64). -/
def assignedOps : List Nat :=
  [0x01, 0x02, 0x03, 0x04, 0x10, 0x11, 0x12, 0x20, 0x21, 0x22, 0x23, 0x24, 0x30, 0x31, 0x32, 0x33,
    0x40, 0x41, 0x42, 0x43, 0x44, 0x45, 0x46, 0x47, 0x48, 0x49, 0x4A, 0x50, 0x51]

/-- The bus address an event of the trace carries. -/
def Machine.BusEvent.address : BusEvent → Byte
  | .write a _ _ _ => a
  | .read1 a _ => a
  | .read3 a _ _ _ => a

/-- The operations whose success puts a word on `VALUE` (30_encoding.md R62). -/
def Instr.deliversWord (i : Instr) : Bool :=
  match i with
  | .rdreg _ | .rdahon | .rdahoff | .rdalon | .rdaloff | .rdcfg | .h2b _ => true
  | .setaddr _ | .enter | .exit | .teardown | .wrregOr _ _ _ | .wrregAnd _ _ _ => false
  | .wrahon _ | .wrahoff _ | .wralon _ | .wraloff _ | .chgaddr _ => false
  | .alpolSet | .alpolClr | .aloutSet | .aloutClr | .ahpolSet => false
  | .ahpolClr | .ahoutSet | .ahoutClr | .su3msSet | .su3msClr | .b2h _ => false

/-- The operations whose success puts a humidity on `HRSP` (30_encoding.md R62). -/
def Instr.deliversHumidity (i : Instr) : Bool :=
  match i with
  | .rdahon | .rdahoff | .rdalon | .rdaloff | .b2h _ => true
  | .setaddr _ | .enter | .exit | .teardown | .rdreg _ | .wrregOr _ _ _ | .wrregAnd _ _ _ | .rdcfg => false
  | .wrahon _ | .wrahoff _ | .wralon _ | .wraloff _ | .chgaddr _ | .h2b _ => false
  | .alpolSet | .alpolClr | .aloutSet | .aloutClr | .ahpolSet => false
  | .ahpolClr | .ahoutSet | .ahoutClr | .su3msSet | .su3msClr => false

/-- What a host can tell apart of a state without the status byte itself (10_state.md R29): everything but the latch
`ST`, the recorded bus bytes and the bytes still to come. -/
def Machine.State.blindToStatus (s : State) : State := { s with st := 0, trace := [], answers := [] }

end Sys2Proof
end

