-- ==== Sys2Proof/WellFormed.lean ====
section
/-! DEFINITION. Well-formedness of a request: what 30_encoding.md R80 says an assembler line encodes to. An `Instr` needs
no check: each operand has exactly the width of its field (R60), and R60 and R64 exclude no value. The engine
itself does not make these checks: it ignores unused fields (R64), and an illegal `OP` has an outcome of its own. -/

namespace Sys2Proof

/-- An unused field `A8` is zero. -/
def Request.a8Ok (r : Request) (f : Format) : Bool := f.readsA8 || r.a8 == 0

/-- An unused field `W0` is zero. -/
def Request.w0Ok (r : Request) (f : Format) : Bool := f.readsW0 || r.w0 == 0

/-- An unused field `W1` is zero. -/
def Request.w1Ok (r : Request) (f : Format) : Bool := f.readsW1 || r.w1 == 0

/-- An unused lane `HREQ` is at `unusedHum`. -/
def Request.hreqOk (r : Request) (f : Format) : Bool := f.readsHreq || r.hreq == unusedHum

/-- The request is the encoding of an assembler line (30_encoding.md R80): its `OP` is in the opcode map and every
field its format does not read is zero. -/
def Request.wellFormed (r : Request) : Bool :=
  match decode r with
  | .illegalOp _ => false
  | .instr i => r.a8Ok i.format && r.w0Ok i.format && r.w1Ok i.format && r.hreqOk i.format

end Sys2Proof
end

