-- ==== Sys2Proof/Certificates/Slice0/Obligations.lean ====
section
/-! DEFINITION. The statements for the provers. Each docstring names the rule of spec/ the statement formalises; `s.draws`,
`s.host`, `s.answers`, `s.trace`, `s.earlier`, `s.replies` and `s.pollLimit` are the model's own fields (INVENTORY.md).
Wherever a statement gives a whole next state with `SEQ = IDLE`, its clauses on the six latches there are the model's choice
(log entry 23: 93_implementation_defined.md U12 leaves them any value). -/

open Sys2Proof Sys2Proof.Machine

/-! ### Encoding -/

/-- Decoding the encoding of any instruction gives it back, every operand at every value (30_encoding.md R60, R61, R63, R80). -/
def Obligations.DecodeOfEncodeIsIdentity : Prop :=
  ∀ i : Instr, decode (encode i) = .instr i

/-- A well-formed request (unused fields zero, R80) is the encoding of what it decodes to: no bit of it is dropped. -/
def Obligations.EncodeOfDecodeIsIdentity : Prop :=
  ∀ (r : Request) (i : Instr), r.wellFormed = true → decode r = .instr i → encode i = r

/-- 30_encoding.md R64: exactly the 29 assigned values of `OP` decode; with any other the step that takes the request ends
with `IllegalOp`, no bus event and no change of the session registers; a field the format does not read is ignored. That the
step latches the illegal request in `OPR` is the model's choice (log entry 16: 46_sequencer_steps.md R171 beside the
"no state change" of R64).
The latches in `IDLE`: log entry 23. -/
def Obligations.UnassignedOpIsIllegalAndUnusedFieldsAreIgnored : Prop :=
  (∀ r : Request, (∃ i, decode r = .instr i) ↔ r.op.toNat ∈ assignedOps) ∧
  (∀ (s : State) (r : Request) (rest : List HostInput), r.op.toNat ∉ assignedOps →
    s.host = .request r :: rest → s.seq = .idle → s.busy = false →
    step s = .next { s with
      host := rest, opr := .illegalOp r.op, replies := s.replies ++ [.fail .illegalOp] }) ∧
  (∀ (r r' : Request) (i : Instr), decode r = .instr i → r'.op = r.op →
    (i.format.readsA8 = true → r'.a8 = r.a8) → (i.format.readsW0 = true → r'.w0 = r.w0) →
    (i.format.readsW1 = true → r'.w1 = r.w1) → (i.format.readsHreq = true → r'.hreq = r.hreq) →
    decode r' = .instr i)

/-- Request words of 30_encoding.md R80 and 95_test_vectors.md decode to the operations they stand for. -/
def Obligations.SampleRequestWordsDecode : Prop :=
  decode ⟨0x012700000000, some 0⟩ = .instr (.setaddr 0x27) ∧
  decode ⟨0x115C12270080, some 0⟩ = .instr (.wrregOr 0x5C 0x1227 0x0080) ∧
  decode ⟨0x24FFFFFFFFFF, some 0⟩ = .instr .rdcfg ∧
  decode ⟨0x300000000000, some 80⟩ = .instr (.wrahon (some 80)) ∧
  decode ⟨0x402000000000, some 0⟩ = .instr (.chgaddr 0x20) ∧
  decode ⟨0x50001FFF0000, some 0⟩ = .instr (.b2h 0x1FFF)

/-! ### The machine's step -/

/-- In `IDLE` with `BUSY = 0` a presented request is taken, and the step is the accepting micro-step of the operation it
decodes to (46_sequencer_steps.md R171). -/
def Obligations.StepRunsTheDecodedRequest : Prop :=
  ∀ (s : State) (r : Request) (rest : List HostInput) (i : Instr),
    s.host = .request r :: rest → s.seq = .idle → s.busy = false → decode r = .instr i →
    step s = exec i { s with host := rest }

/-- While an operation is in progress and no reset event comes, the step is the next micro-step of that operation
(46_sequencer_steps.md R181); a quiet turn of the host is used up (log entry 11). -/
def Obligations.StepResumesTheLatchedOperation : Prop :=
  ∀ (s : State) (i : Instr), s.seq ≠ .idle → s.opr = .instr i → s.host.head? ≠ some .reset →
    (s.host.head? = some .quiet → step s = exec i { s with host := s.host.tail }) ∧
    (s.host.head? ≠ some .quiet → step s = exec i s)

/-- A request presented while an operation is in progress is held: whatever the step does, it is still presented
afterwards, and nothing before it was lost (60_exceptions.md R197). -/
def Obligations.RequestIsHeldWhileBusy : Prop :=
  ∀ (s t : State) (r : Request) (rest : List HostInput), s.host = .request r :: rest → s.seq ≠ .idle →
    step s = .next t → t.host = s.host

/-- With nothing presented, the engine in `IDLE` does nothing (46_sequencer_steps.md R181).
The latches in `IDLE`: log entry 23. -/
def Obligations.IdleEngineRests : Prop :=
  ∀ s : State, s.host = [] → s.seq = .idle → step s = .next s

/-- 70_reset_and_hazards.md R210, in every sequencer state: the four fixed registers at their reset values, no bus event, no
response; the bus trace counts from the event (00_scope.md R12), and the events of before it are kept apart (log entry 10).
`ADDR` and the latches may hold anything. -/
def Obligations.ResetEventAtAnyMicroStep : Prop :=
  ∀ (s : State) (rest : List HostInput), s.host = .reset :: rest →
    ∃ t, step s = .next t ∧ t.mode = .normal ∧ t.addrSet = false ∧ t.busy = false ∧ t.seq = .idle ∧
      t.trace = [] ∧ t.earlier = s.earlier ++ s.trace ∧ t.replies = s.replies ∧ t.host = rest ∧
      t.pollLimit = s.pollLimit

/-- 10_state.md R35: the values the spec gives for reset; those of `ADDR` and of the latches are not stated. -/
def Obligations.ResetValues : Prop :=
  State.reset.mode = .normal ∧ State.reset.addrSet = false ∧ State.reset.busy = false ∧
  State.reset.seq = .idle

/-- The invariant holds after reset. -/
def Obligations.InvariantHoldsAtReset : Prop := State.reset.Inv

/-- Every step from every state with the invariant keeps it: `BUSY` says `SEQ != IDLE` (10_state.md R25), `MODE = 1` has
`ADDR_SET = 1`, bus events have `ADDR_SET = 1` (R26), transactions run in command mode, `SEQ` fits the latched
operation, a running poll has reads left. -/
def Obligations.EveryStepKeepsTheInvariant : Prop :=
  ∀ s t : State, s.Inv → step s = .next t → t.Inv

/-- No step from a state with the invariant stops: in every sequencer state a step is enabled (46_sequencer_steps.md R170). -/
def Obligations.NoStepStopsUnderTheInvariant : Prop :=
  ∀ s : State, s.Inv → ∃ t, step s = .next t

/-- A step adds at most one event to the events that were on the bus and rewrites none (20_memory.md R54,
46_sequencer_steps.md R170): a reset event moves the trace to `earlier` and adds none, any other step appends to the trace. -/
def Obligations.AtMostOneBusEventPerStep : Prop :=
  ∀ s t : State, step s = .next t →
    (s.host.head? = some .reset → t.trace = [] ∧ t.earlier = s.earlier ++ s.trace) ∧
    (s.host.head? ≠ some .reset → t.earlier = s.earlier ∧ ∃ es, t.trace = s.trace ++ es ∧ es.length ≤ 1)

/-- Every bus event carries `ADDR` with a top bit of 0, and happens with `ADDR_SET = 1` (10_state.md R22, R26 (c);
20_memory.md R40, R41). -/
def Obligations.BusEventsCarryTheConfiguredAddress : Prop :=
  ∀ (s t : State) (e : BusEvent), s.Inv → step s = .next t → t.trace = s.trace ++ [e] →
    s.addrSet = true ∧ e.address = 0#1 ++ s.addr

/-! ### What an operation never does -/

/-- 10_state.md R36, columns `ADDR` and `ADDR_SET`, for one micro-step in any state: only `SETADDR` and `TEARDOWN` write
them. -/
def Obligations.OnlySetaddrAndTeardownWriteTheAddress : Prop :=
  ∀ (i : Instr) (s t : State), exec i s = .next t → (∀ a, i ≠ .setaddr a) → i ≠ .teardown →
    t.addr = s.addr ∧ t.addrSet = s.addrSet

/-- 10_state.md R26 (a): while `MODE = 1` no operation but `TEARDOWN` changes `ADDR` or `ADDR_SET`. -/
def Obligations.AddressIsKeptInCommandMode : Prop :=
  ∀ (i : Instr) (s t : State), exec i s = .next t → s.mode = .inCommandMode → i ≠ .teardown →
    t.addr = s.addr ∧ t.addrSet = s.addrSet

/-- 40_lifecycle.md R94, for one micro-step of an operation in a sequencer state of its own: `MODE` rises only by `ENTER` on
a status byte with bit 7 set, and falls only by `EXIT` and `TEARDOWN`. -/
def Obligations.ModeChangesOnlyByEnterExitTeardown : Prop :=
  ∀ (i : Instr) (s t : State), exec i s = .next t → i.admits s.seq = true →
    (s.mode = .normal → t.mode = .inCommandMode → i = .enter ∧ s.seq = .startRx ∧ (answer s 0).getLsbD 7 = true) ∧
    (s.mode = .inCommandMode → t.mode = .normal → (i = .exit ∨ i = .teardown) ∧ s.seq = .exitTx)

/-- 60_exceptions.md R193: a micro-step ends its operation exactly when it leaves `SEQ = IDLE`; then it delivers exactly one
response and clears `BUSY`; otherwise it delivers none. -/
def Obligations.EndingDeliversOneResponse : Prop :=
  ∀ (i : Instr) (s t : State), exec i s = .next t →
    (t.seq = .idle → t.busy = false ∧ ∃ r, t.replies = s.replies ++ [r]) ∧
    (t.seq ≠ .idle → t.replies = s.replies)

/-- 60_exceptions.md R195: a micro-step that does not end its operation with `OK` leaves `ADDR`, `ADDR_SET` and `MODE` as
they were. -/
def Obligations.FailureLeavesTheSessionUnchanged : Prop :=
  ∀ (i : Instr) (s t : State), exec i s = .next t →
    (t.replies = s.replies ∨ ∃ f, t.replies = s.replies ++ [.fail f]) →
    t.addr = s.addr ∧ t.addrSet = s.addrSet ∧ t.mode = s.mode

/-- The blank entries of the matrix of 60_exceptions.md R191: no operation ends with an outcome its row does not mark. -/
def Obligations.FailureOutcomesAreThoseOfTheMatrix : Prop :=
  ∀ (i : Instr) (s t : State) (f : Failure), exec i s = .next t → i.admits s.seq = true →
    t.replies = s.replies ++ [.fail f] → f ∈ i.failures

/-- No operation touches the model's inputs and parameter: the host's list, POLL_LIMIT and the bus events of before the last
reset event are kept, and what the environment still has to say is a tail of what it had. -/
def Obligations.OperationsKeepParameterAndHostInputs : Prop :=
  ∀ (i : Instr) (s t : State), exec i s = .next t →
    t.pollLimit = s.pollLimit ∧ t.host = s.host ∧ t.earlier = s.earlier ∧ ∃ n, t.answers = s.answers.drop n

/-- 30_encoding.md R68, column "examined by", in the sequencer states that read the bus: a status byte's bits 6:2 never
matter; `ENTER` looks at bit 7 only; a poll looks at bits 1:0 only. Two answers that agree there lead to states
that differ in `ST`, the recorded bus bytes and the bytes to come alone.
The latches in `IDLE`: log entry 23. -/
def Obligations.OnlyTheNamedStatusBitsMatter : Prop :=
  ∀ (i : Instr) (s t : State) (b b' : Byte) (rest : List Byte),
    (s.seq = .startRx → b.getLsbD 7 = b'.getLsbD 7) →
    (inPoll s.seq = true → b.extractLsb' 0 2 = b'.extractLsb' 0 2) →
    exec i { s with answers := b :: rest } = .next t →
    ∃ t', exec i { s with answers := b' :: rest } = .next t' ∧ t'.blindToStatus = t.blindToStatus

/-! ### Lifecycle -/

/-- 40_lifecycle.md R90: the encoding; the range test, then the mode test, then the two registers; no bus event.
The latches in `IDLE`: log entry 23. -/
def Obligations.SetaddrResult : Prop :=
  ∀ (a : Byte) (s : State), (encode (.setaddr a)).req = 0x01#8 ++ a ++ 0x0000#16 ++ 0x0000#16 ∧ (s.seq = .idle →
    exec (.setaddr a) s = .next
      (if 0x7F < a.toNat then finish (.fail .invalidArgument) { s with opr := .instr (.setaddr a) }
       else if s.mode = .inCommandMode then finish (.fail .inCommandMode) { s with opr := .instr (.setaddr a) }
       else finish (.ok .noValue)
        { s with opr := .instr (.setaddr a), addr := a.extractLsb' 0 7, addrSet := true }))

/-- `ENTER`, micro-step by micro-step (46_sequencer_steps.md R171, R172, R173): acceptance, the START frame, the one status
byte whose bit 7 decides.
The latches in `IDLE`: log entry 23. -/
def Obligations.EnterMicroSteps : Prop :=
  ∀ s : State,
    (s.seq = .idle → exec .enter s = .next
      (if s.addrSet = true then { s with opr := .instr .enter, busy := true, seq := .startTx }
       else finish (.fail .noAddress) { s with opr := .instr .enter })) ∧
    (s.seq = .startTx → exec .enter s = .next
      { s with trace := s.trace ++ [.write (0#1 ++ s.addr) 0xA0 0x00 0x00], pcnt := 0, seq := .startRx }) ∧
    (s.seq = .startRx → exec .enter s = .next
      (if (answer s 0).getLsbD 7 = true then finish (.ok .noValue) { busRead1 s with mode := .inCommandMode }
       else finish (.fail .enterFailed) (busRead1 s)))

/-- `EXIT` and `TEARDOWN`, micro-step by micro-step (46_sequencer_steps.md R171, R174). After `TEARDOWN` some address stands in
`ADDR`; which one is open.
The latches in `IDLE`: log entry 23. -/
def Obligations.ExitAndTeardownMicroSteps : Prop :=
  ∀ s : State,
    (s.seq = .idle → exec .exit s = .next
      (if s.addrSet = true then { s with opr := .instr .exit, busy := true, seq := .exitTx }
       else finish (.fail .noAddress) { s with opr := .instr .exit })) ∧
    (s.seq = .exitTx → exec .exit s = .next (finish (.ok .noValue)
      { s with
        trace := s.trace ++ [.write (0#1 ++ s.addr) 0x80 0x00 0x00], pcnt := 0, mode := .normal })) ∧
    (s.seq = .idle → s.mode = .inCommandMode →
      exec .teardown s = .next { s with opr := .instr .teardown, busy := true, seq := .exitTx }) ∧
    (s.seq = .idle → s.mode = .normal → ∃ a : Addr,
      exec .teardown s = .next (finish (.ok .noValue)
        { s with opr := .instr .teardown, addrSet := false, addr := a, draws := s.draws + 1 })) ∧
    (s.seq = .exitTx → ∃ a : Addr, exec .teardown s = .next (finish (.ok .noValue)
      { s with
        trace := s.trace ++ [.write (0#1 ++ s.addr) 0x80 0x00 0x00], pcnt := 0, mode := .normal
        addrSet := false, addr := a, draws := s.draws + 1 }))

/-- 40_lifecycle.md R91, the encoding and the whole operation. With an address configured: exactly one write and one read of one byte, `OK` and
`MODE = 1` when bit 7 of that byte is 1, else `EnterFailed` and `MODE` kept; without an address, `NoAddress` and no
bus traffic. -/
def Obligations.EnterWholeOperation : Prop :=
  (encode .enter).req = 0x020000000000 ∧ ∀ s : State, s.seq = .idle → ∃ t, operate .enter 3 s = .next t ∧ t.seq = .idle ∧ t.busy = false ∧
    t.addr = s.addr ∧ t.addrSet = s.addrSet ∧
    (s.addrSet = false → t.trace = s.trace ∧ t.mode = s.mode ∧ t.replies = s.replies ++ [.fail .noAddress]) ∧
    (s.addrSet = true → (∃ u, exec .enter s = .next u ∧ u.busy = true) ∧
      t.trace = s.trace ++ [.write (0#1 ++ s.addr) 0xA0 0x00 0x00, .read1 (0#1 ++ s.addr) (answer s 0)] ∧
      ((answer s 0).getLsbD 7 = true → t.mode = .inCommandMode ∧ t.replies = s.replies ++ [.ok .noValue]) ∧
      ((answer s 0).getLsbD 7 = false → t.mode = s.mode ∧ t.replies = s.replies ++ [.fail .enterFailed]))

/-- 40_lifecycle.md R92, the encoding and the whole operation: with an address, the EXIT frame and nothing else, Normal, `OK`; without one,
`NoAddress` and no bus traffic. -/
def Obligations.ExitWholeOperation : Prop :=
  (encode .exit).req = 0x030000000000 ∧ ∀ s : State, s.seq = .idle → ∃ t, operate .exit 2 s = .next t ∧ t.seq = .idle ∧ t.busy = false ∧
    t.addr = s.addr ∧ t.addrSet = s.addrSet ∧ t.answers = s.answers ∧
    (s.addrSet = false → t.trace = s.trace ∧ t.mode = s.mode ∧ t.replies = s.replies ++ [.fail .noAddress]) ∧
    (s.addrSet = true → (∃ u, exec .exit s = .next u ∧ u.busy = true) ∧
      t.trace = s.trace ++ [.write (0#1 ++ s.addr) 0x80 0x00 0x00] ∧ t.mode = .normal ∧
      t.replies = s.replies ++ [.ok .noValue])

/-- 40_lifecycle.md R93, the encoding and the whole operation: the EXIT frame exactly when `MODE = 1`; Normal, no address, `OK` in any case. -/
def Obligations.TeardownWholeOperation : Prop :=
  (encode .teardown).req = 0x040000000000 ∧ ∀ s : State, s.seq = .idle → ∃ t, operate .teardown 2 s = .next t ∧ t.seq = .idle ∧ t.busy = false ∧
    t.mode = .normal ∧ t.addrSet = false ∧ t.replies = s.replies ++ [.ok .noValue] ∧ t.answers = s.answers ∧
    (s.mode = .normal → t.trace = s.trace) ∧
    (s.mode = .inCommandMode → (∃ u, exec .teardown s = .next u ∧ u.busy = true) ∧
      t.trace = s.trace ++ [.write (0#1 ++ s.addr) 0x80 0x00 0x00])

/-- The source's property in 40_lifecycle.md R92: `ENTER` followed by `EXIT` leaves the session in Normal whatever the
device answers. -/
def Obligations.EnterThenExitLeavesNormal : Prop :=
  ∀ s : State, s.seq = .idle → s.addrSet = true →
    ∃ t u, operate .enter 3 s = .next t ∧ operate .exit 2 t = .next u ∧ u.mode = .normal

/-! ### Acceptance of the register operations -/

/-- Acceptance of the primitives (46_sequencer_steps.md R171; 41_register_transactions.md R104, R106, R107): in Normal
`NotInCommandMode` and nothing else, in command mode the latches are loaded and `BUSY` is set.
The latches in `IDLE`: log entry 23. -/
def Obligations.PrimitivesAreAccepted : Prop :=
  ∀ (s : State) (cmd : Byte) (old new : Word), s.seq = .idle →
    (s.mode = .normal → ∀ i ∈ [Instr.rdreg cmd, .wrregOr cmd old new, .wrregAnd cmd old new],
      exec i s = .next (finish (.fail .notInCommandMode) { s with opr := .instr i })) ∧
    (s.mode = .inCommandMode →
      exec (.rdreg cmd) s = .next
        { s with opr := .instr (.rdreg cmd), cmd := cmd, busy := true, seq := .rdTx } ∧
      exec (.wrregOr cmd old new) s = .next
        { s with
          opr := .instr (.wrregOr cmd old new), cmd := cmd, txw := old ||| new, busy := true, seq := .wrTx } ∧
      exec (.wrregAnd cmd old new) s = .next
        { s with
          opr := .instr (.wrregAnd cmd old new), cmd := cmd, txw := old &&& new, busy := true, seq := .wrTx })

/-- Acceptance of the read accessors (46_sequencer_steps.md R171; 42_read_accessors.md R115 to R120).
The latches in `IDLE`: log entry 23. -/
def Obligations.ReadAccessorsAreAccepted : Prop :=
  ∀ (s : State), s.seq = .idle →
    ∀ p ∈ [(Instr.rdahon, 0x18#8), (.rdahoff, 0x19#8), (.rdalon, 0x1A#8), (.rdaloff, 0x1B#8), (.rdcfg, 0x1C#8)],
      exec p.1 s = .next
        (if s.mode = .normal then finish (.fail .notInCommandMode) { s with opr := .instr p.1 }
         else { s with opr := .instr p.1, cmd := p.2, busy := true, seq := .rdTx })

/-- Acceptance of the threshold changes (46_sequencer_steps.md R171; 43_threshold_change.md R125 to R129): not a number, below 0
or above 100 is `InvalidArgument`, before the mode test; else the word is the scaled and floored operand.
The latches in `IDLE`: log entry 23. -/
def Obligations.ThresholdChangesAreAccepted : Prop :=
  ∀ (s : State) (h : HumIn), s.seq = .idle →
    ∀ p ∈ [(Instr.wrahon h, 0x58#8), (.wrahoff h, 0x59#8), (.wralon h, 0x5A#8), (.wraloff h, 0x5B#8)],
      ((∀ q, h = some q → q < 0 ∨ 100 < q) →
        exec p.1 s = .next (finish (.fail .invalidArgument) { s with opr := .instr p.1 })) ∧
      (∀ q, h = some q → 0 ≤ q → q ≤ 100 → ∃ w : Word, (w.toNat : Int) = ⌊q * 16382 / 100⌋ ∧
        exec p.1 s = .next
          (if s.mode = .normal then finish (.fail .notInCommandMode) { s with opr := .instr p.1 }
           else { s with opr := .instr p.1, cmd := p.2, txw := w, busy := true, seq := .wrTx }))

/-- Acceptance of the config changes (46_sequencer_steps.md R171; 44_config_change.md R135, R136): `CHGADDR` tests its address
first; all eleven begin with a read of customer-config.
The latches in `IDLE`: log entry 23. -/
def Obligations.ConfigChangesAreAccepted : Prop :=
  ∀ (s : State) (a : Byte), s.seq = .idle →
    (0x7F < a.toNat →
      exec (.chgaddr a) s = .next (finish (.fail .invalidArgument) { s with opr := .instr (.chgaddr a) })) ∧
    (∀ i : Instr, i.shape = .change → (∀ b, i = .chgaddr b → b.toNat ≤ 0x7F) →
      exec i s = .next
        (if s.mode = .normal then finish (.fail .notInCommandMode) { s with opr := .instr i }
         else { s with opr := .instr i, cmd := 0x1C, busy := true, seq := .rdTx }))

/-- 60_exceptions.md R198 and R192: in Normal none of the 23 register operations gets past acceptance; the outcome is
`InvalidArgument` if the argument test fails, else `NotInCommandMode`, without a bus event. -/
def Obligations.RegisterOperationsAreRefusedInNormal : Prop :=
  ∀ (i : Instr) (s : State), i.isRegisterOp = true → s.seq = .idle → s.mode = .normal →
    ∃ t, exec i s = .next t ∧
      t.replies = s.replies ++ [.fail (if i.badArgument then .invalidArgument else .notInCommandMode)] ∧ t.trace = s.trace ∧ t.seq = .idle ∧ t.busy = false ∧
      t.addr = s.addr ∧ t.addrSet = s.addrSet ∧ t.mode = s.mode

/-! ### Transactions -/

/-- 41_register_transactions.md R100: the decoder of the status byte, by the value of the byte. -/
def Obligations.StatusDecoderTable : Prop :=
  ∀ s : Byte, (statusDecode s).cm = decide (128 ≤ s.toNat) ∧ (statusDecode s).resp.toNat = s.toNat % 4 ∧
    (statusDecode s).done = decide (s.toNat % 4 ≠ 0) ∧ (statusDecode s).ack = decide (s.toNat % 2 = 1)

/-- 41_register_transactions.md R105: bit by bit. -/
def Obligations.CombineIsBitwise : Prop :=
  ∀ (old new : Word) (k : Nat), (combine .or old new).getLsbD k = (old.getLsbD k || new.getLsbD k) ∧
    (combine .and old new).getLsbD k = (old.getLsbD k && new.getLsbD k)

/-- 46_sequencer_steps.md R175 and R177, for every operation: the read frame carries two zero bytes, the write frame the
high byte then the low byte of `TXW`; `PCNT` is cleared. -/
def Obligations.TransactionFrames : Prop :=
  ∀ (i : Instr) (s : State),
    (s.seq = .rdTx → exec i s = .next
      { s with trace := s.trace ++ [.write (0#1 ++ s.addr) s.cmd 0x00 0x00], pcnt := 0, seq := .rdPoll }) ∧
    (s.seq = .wrTx → ∃ hi lo : Byte, hi ++ lo = s.txw ∧ exec i s = .next
      { s with trace := s.trace ++ [.write (0#1 ++ s.addr) s.cmd hi lo], pcnt := 0, seq := .wrPoll })

/-- 46_sequencer_steps.md R178, for every operation that writes: the four cases of a write poll that has reads left
(`PCNT < POLL_LIMIT`, the clause `pollCount` of the invariant); the last one completes the operation.
The latches in `IDLE`: log entry 23. -/
def Obligations.WritePollStep : Prop :=
  ∀ (i : Instr) (s : State), s.seq = .wrPoll → s.pcnt < s.pollLimit → exec i s = .next
    (if (answer s 0).extractLsb' 0 2 = 0#2 then
      (if s.pcnt + 1 = s.pollLimit then finish (.fail .timeout) (pollRead1 s) else pollRead1 s)
     else if (answer s 0).getLsbD 0 = false then finish (.fail .deviceNack) (pollRead1 s)
     else finish (.ok .noValue) (pollRead1 s))

/-- 46_sequencer_steps.md R176 (a), (b), (c), for every operation that reads: a read poll that has reads left (`PCNT <
POLL_LIMIT`, the clause `pollCount` of the invariant), until it is done and acknowledged; the data bytes are discarded (`RXW` is kept).
The latches in `IDLE`: log entry 23. -/
def Obligations.ReadPollUntilAcknowledged : Prop :=
  ∀ (i : Instr) (s : State), s.seq = .rdPoll → s.pcnt < s.pollLimit →
    ((answer s 0).extractLsb' 0 2 = 0#2 → exec i s = .next
      (if s.pcnt + 1 = s.pollLimit then finish (.fail .timeout) (pollRead3 s) else pollRead3 s)) ∧
    ((answer s 0).extractLsb' 0 2 = 2#2 → exec i s = .next (finish (.fail .deviceNack) (pollRead3 s)))

/-- 46_sequencer_steps.md R179: what follows a read that is done and acknowledged, for the 17 operations that read. `v` is
the word of that same response, most significant byte first (20_memory.md R47).
The latches in `IDLE`: log entry 23. -/
def Obligations.ContinuationAfterRead : Prop :=
  ∀ (s : State) (cmd a : Byte), s.seq = .rdPoll → (answer s 0).getLsbD 0 = true →
    let v : Word := answer s 1 ++ answer s 2
    let t : State := { pollRead3 s with rxw := v }
    (∀ i ∈ [Instr.rdreg cmd, .rdcfg], exec i s = .next (finish (.ok (.word v)) t)) ∧
    (∀ i ∈ [Instr.rdahon, .rdahoff, .rdalon, .rdaloff],
      exec i s = .next (finish (.ok (.wordHum v ((v.toNat : Rat) * 100 / 16382))) t)) ∧
    (∀ p ∈ [(Instr.chgaddr a, (v &&& 0xFF80) ||| (0#9 ++ a.extractLsb' 0 7)),
        (.alpolSet, v ||| 0x0040), (.aloutSet, v ||| 0x0080), (.ahpolSet, v ||| 0x0100),
        (.ahoutSet, v ||| 0x0200), (.su3msSet, v ||| 0x1000),
        (.alpolClr, v &&& 0xFFBF), (.aloutClr, v &&& 0xFF7F), (.ahpolClr, v &&& 0xFEFF),
        (.ahoutClr, v &&& 0xFDFF), (.su3msClr, v &&& 0xEFFF)],
      exec p.1 s = .next { t with txw := p.2, cmd := 0x5C, seq := .wrTx })

/-- 45_conversion_and_decode.md R160 with 44_config_change.md R137: in the word a config change is about to write, the field
it names has the new value and every bit outside that field is as read, reserved bits included (30_encoding.md R78). -/
def Obligations.ConfigChangesWriteTheirFieldOnly : Prop :=
  ∀ (s : State) (a : Byte), s.seq = .rdPoll → (answer s 0).getLsbD 0 = true →
    (∀ p ∈ [(Instr.alpolSet, 6, true), (.alpolClr, 6, false), (.aloutSet, 7, true), (.aloutClr, 7, false),
        (.ahpolSet, 8, true), (.ahpolClr, 8, false), (.ahoutSet, 9, true), (.ahoutClr, 9, false),
        (.su3msSet, 12, true), (.su3msClr, 12, false)],
      ∃ t, exec p.1 s = .next t ∧ t.txw.getLsbD p.2.1 = p.2.2 ∧
        ∀ k, k ≠ p.2.1 → t.txw.getLsbD k = t.rxw.getLsbD k) ∧
    (∃ t, exec (.chgaddr a) s = .next t ∧ (cfgDecode t.txw).fAddr = a.extractLsb' 0 7 ∧
      (cfgDecode t.txw).fAlpol = a.getLsbD 6 ∧ ∀ k, 7 ≤ k → t.txw.getLsbD k = t.rxw.getLsbD k)

/-- 44_config_change.md R137: (d) the alarm-low polarity bit is bit 6 of the stored address and the four other fields are
other bits; (a), (b), (c) what that does to `ALPOL.SET`, `ALPOL.CLR` and `CHGADDR`. -/
def Obligations.PolarityBitAliasesTheAddress : Prop :=
  (∀ w : Word, (cfgDecode w).fAlpol = (cfgDecode w).fAddr.getLsbD 6 ∧ (cfgDecode w).fAlout = w.getLsbD 7 ∧
    (cfgDecode w).fAhpol = w.getLsbD 8 ∧ (cfgDecode w).fAhout = w.getLsbD 9 ∧ (cfgDecode w).fSu3ms = w.getLsbD 12) ∧
  ∀ s : State, s.seq = .rdPoll → (answer s 0).getLsbD 0 = true →
    (∀ a : Byte, ∃ t, exec (.chgaddr a) s = .next t ∧ (cfgDecode t.txw).fAlpol = a.getLsbD 6) ∧
    (∃ t, exec .alpolSet s = .next t ∧ (cfgDecode t.txw).fAddr = (cfgDecode t.rxw).fAddr ||| 0x40) ∧
    (∃ t, exec .alpolClr s = .next t ∧ (cfgDecode t.txw).fAddr = (cfgDecode t.rxw).fAddr &&& 0x3F)

/-! ### Conversions and the response -/

/-- 45_conversion_and_decode.md R156 and R158, in either mode, with or without an address: the whole operation is one step
without a bus event; `H2B` saturates, and gives 0 for an operand that is not a number.
The latches in `IDLE`: log entry 23. -/
def Obligations.ConversionOperations : Prop :=
  ∀ s : State, s.seq = .idle →
    (∀ raw : Word, exec (.b2h raw) s = .next
      (finish (.ok (.hum ((raw.toNat : Rat) * 100 / 16382))) { s with opr := .instr (.b2h raw) })) ∧
    (∀ h : HumIn, ∃ w : Word,
      exec (.h2b h) s = .next (finish (.ok (.word w)) { s with opr := .instr (.h2b h) }) ∧
      (h = none → w = 0) ∧
      (∀ q, h = some q → (w.toNat : Int) = max 0 (min 65535 ⌊q * 16382 / 100⌋)))

/-- 45_conversion_and_decode.md R157: scale exactly, floor once, clamp last; and the values the rule lists. -/
def Obligations.HumidityToBitsFloorsOnceAndClamps : Prop :=
  (∀ q : Rat, ((humidityToBits q).toNat : Int) = max 0 (min 65535 ⌊q * 16382 / 100⌋)) ∧
  humidityToBits 0 = 0 ∧ humidityToBits 50 = 8191 ∧ humidityToBits 100 = 0x3FFE ∧ humidityToBits 80 = 0x3331 ∧
  humidityToBits (101 / 2) = 0x2050 ∧ humidityToBits (99999 / 1000) = 16381 ∧ humidityToBits (6 / 1000) = 0 ∧
  humidityToBits (62 / 10000) = 1 ∧ humidityToBits (333 / 10) = 5455 ∧ humidityToBits 400 = 65528 ∧
  humidityToBits (40005 / 100) = 65535 ∧ humidityToBits 1000 = 65535 ∧ humidityToBits (-1) = 0

/-- 45_conversion_and_decode.md R155: the exact rational for every count, and the values the rule lists. -/
def Obligations.BitsToHumidityIsExact : Prop :=
  (∀ raw : Word, bitsToHumidity raw = (raw.toNat : Rat) * 100 / 16382) ∧
  bitsToHumidity 0 = 0 ∧ bitsToHumidity 8191 = 50 ∧ bitsToHumidity 16382 = 100 ∧ bitsToHumidity 1 = 50 / 8191 ∧
  bitsToHumidity 16383 = 819150 / 8191 ∧ bitsToHumidity 0xFFFF = 3276750 / 8191

/-- 45_conversion_and_decode.md R159: on 0 to 100 the round trip never exceeds `h`, falls short by less than one count, and
is exact just where `h * 163.82` is an integer; from a count and back it is exact for all 65536 counts. -/
def Obligations.HumidityRoundTrip : Prop :=
  (∀ h : Rat, 0 ≤ h → h ≤ 100 →
    0 ≤ h - bitsToHumidity (humidityToBits h) ∧ h - bitsToHumidity (humidityToBits h) < 100 / 16382 ∧
    (bitsToHumidity (humidityToBits h) = h ↔ ∃ z : Int, h * (16382 / 100) = z)) ∧
  (∀ c : Word, humidityToBits (bitsToHumidity c) = c)

/-- 45_conversion_and_decode.md R160: the bit each output of `CfgDecode` is; the encoder's three kinds of word read back; the
two examples; the lanes of every response are its outputs on `VALUE`. -/
def Obligations.ConfigDecoderOutputs : Prop :=
  (∀ w : Word, (cfgDecode w).fAddr.toNat = w.toNat % 128 ∧ (cfgDecode w).fAlpol = w.getLsbD 6 ∧
    (cfgDecode w).fAlout = w.getLsbD 7 ∧ (cfgDecode w).fAhpol = w.getLsbD 8 ∧ (cfgDecode w).fAhout = w.getLsbD 9 ∧
    (cfgDecode w).fSu3ms = w.getLsbD 12) ∧
  (∀ cfg : Word,
    (cfgDecode (cfg ||| 0x0040)).fAlpol = true ∧ (cfgDecode (cfg &&& 0xFFBF)).fAlpol = false ∧
    (cfgDecode (cfg ||| 0x0080)).fAlout = true ∧ (cfgDecode (cfg &&& 0xFF7F)).fAlout = false ∧
    (cfgDecode (cfg ||| 0x0100)).fAhpol = true ∧ (cfgDecode (cfg &&& 0xFEFF)).fAhpol = false ∧
    (cfgDecode (cfg ||| 0x0200)).fAhout = true ∧ (cfgDecode (cfg &&& 0xFDFF)).fAhout = false ∧
    (cfgDecode (cfg ||| 0x1000)).fSu3ms = true ∧ (cfgDecode (cfg &&& 0xEFFF)).fSu3ms = false ∧
    ∀ a : Byte, a.toNat ≤ 0x7F → (cfgDecode ((cfg &&& 0xFF80#16) ||| (0#8 ++ a))).fAddr.toNat = a.toNat) ∧
  cfgDecode 0x1227 = ⟨0x27, false, false, false, true, true⟩ ∧
  cfgDecode 0x0067 = ⟨0x67, true, false, false, false, false⟩ ∧
  ∀ r : Reply, r.response.fields = cfgDecode r.value

/-- 30_encoding.md R62: the lanes of every response, and which operation delivers a word or a humidity. -/
def Obligations.ResponseLanes : Prop :=
  (∀ r : Reply, r.response.rsp.extractLsb' 17 4 = r.outcome ∧ r.response.rsp.getLsbD 16 = r.valid ∧
    r.response.rsp.extractLsb' 0 16 = r.value ∧ (r.valid = false → r.value = 0) ∧
    r.response.hvalid = r.hvalid ∧ (r.hvalid = false → r.response.hrsp = Config.humOutEnc 0) ∧
    (∀ q, r.humidity? = some q → r.hvalid = true ∧ r.response.hrsp = Config.humOutEnc q) ∧
    r.response.fields = cfgDecode r.value) ∧
  (∀ (i : Instr) (s t : State) (r : Reply), exec i s = .next t → i.admits s.seq = true →
    t.replies = s.replies ++ [r] →
    (r.valid = true ↔ r.outcome = 0 ∧ i.deliversWord = true) ∧
    (r.hvalid = true ↔ r.outcome = 0 ∧ i.deliversHumidity = true))

/-- 30_encoding.md R72: the nine outcome codes; no other is produced. -/
def Obligations.OutcomeCodes : Prop :=
  (∀ r : Result, (Reply.ok r).outcome = 0x0) ∧
  (Reply.fail .invalidArgument).outcome = 0x1 ∧ (Reply.fail .notInCommandMode).outcome = 0x2 ∧
  (Reply.fail .deviceNack).outcome = 0x3 ∧ (Reply.fail .timeout).outcome = 0x4 ∧
  (Reply.fail .enterFailed).outcome = 0x5 ∧ (Reply.fail .noAddress).outcome = 0x6 ∧
  (Reply.fail .inCommandMode).outcome = 0x7 ∧ (Reply.fail .illegalOp).outcome = 0x8 ∧ ∀ r : Reply, r.outcome.toNat ≤ 8

/-! ### Whole operations -/

/-- 00_scope.md R13: for every operation, the micro-steps from `IDLE` run to a response within `3 + 2 * POLL_LIMIT` steps and
leave the session registers, the environment, the bus trace and the response that the big-step rule gives. That both readings
leave the same open `ADDR` after `TEARDOWN` is the model's choice (log entry 7). -/
def Obligations.MicroStepsMeetTheBigStepRule : Prop :=
  ∀ (i : Instr) (s : State), s.seq = .idle → 1 ≤ s.pollLimit →
    ∃ n t, n ≤ 3 + 2 * s.pollLimit ∧ operate i n s = .next t ∧ t.seq = .idle ∧ t.view = (bigStep i s).view

/-- The same on the machine behind Host/Core.lean: a request presented to an idle engine, with nothing after it or other
requests only, is answered within `3 + 2 * POLL_LIMIT` steps as the big-step rule says (R13, R180, R197). -/
def Obligations.PresentedRequestIsAnswered : Prop :=
  ∀ (s : State) (r : Request) (rest : List HostInput) (i : Instr),
    s.host = .request r :: rest → (∀ x, rest.head? = some x → ∃ r', x = .request r') →
    s.seq = .idle → s.busy = false → 1 ≤ s.pollLimit → decode r = .instr i →
    ∃ n t, n ≤ 3 + 2 * s.pollLimit ∧ Sys2Proof.core.run n s = .next t ∧ t.seq = .idle ∧ t.host = rest ∧
      t.view = (bigStep i { s with host := rest }).view

/-- 46_sequencer_steps.md R180, column "most": an operation, run for any number of steps, causes no more bus events than
its row allows; none when it is refused at acceptance, and none for `TEARDOWN` in Normal (the first row). -/
def Obligations.BusEventsAreBounded : Prop :=
  ∀ (i : Instr) (s t : State) (n : Nat), s.seq = .idle → 1 ≤ s.pollLimit → operate i n s = .next t →
    t.trace.length ≤ s.trace.length + i.mostBusEvents s

/-- 41_register_transactions.md R101, R102 on `RDREG`: when the first `POLL_LIMIT` status bytes all show busy, the operation
issues the frame and exactly `POLL_LIMIT` reads of three bytes, ends with `Timeout` and leaves the session as it was. -/
def Obligations.BusyDeviceEndsInTimeout : Prop :=
  ∀ (s : State) (cmd : Byte), s.seq = .idle → s.mode = .inCommandMode → 1 ≤ s.pollLimit →
    (∀ k, k < s.pollLimit → (answer s (3 * k)).extractLsb' 0 2 = 0#2) →
    ∃ t, operate (.rdreg cmd) (2 + s.pollLimit) s = .next t ∧ t.seq = .idle ∧ t.busy = false ∧
      t.replies = s.replies ++ [.fail .timeout] ∧ t.mode = s.mode ∧ t.addr = s.addr ∧ t.addrSet = s.addrSet ∧
      t.trace = s.trace ++ .write (0#1 ++ s.addr) cmd 0x00 0x00 :: (List.range s.pollLimit).map fun k =>
        .read3 (0#1 ++ s.addr) (answer s (3 * k)) (answer s (3 * k + 1)) (answer s (3 * k + 2))

/-- 44_config_change.md R136, the whole successful operation when both first polls are acknowledged: four bus events, the
written word `(cfg & 0xFF80) | a`, `ADDR` untouched. -/
def Obligations.ChgaddrWholeOperation : Prop :=
  ∀ (s : State) (a st1 dh dl st2 : Byte) (rest : List Byte), s.seq = .idle → s.mode = .inCommandMode →
    a.toNat ≤ 0x7F → s.answers = st1 :: dh :: dl :: st2 :: rest →
    st1.getLsbD 0 = true → st2.getLsbD 0 = true →
    ∃ (t : State) (hi lo : Byte), operate (.chgaddr a) 5 s = .next t ∧ hi ++ lo = ((dh ++ dl) &&& 0xFF80#16) ||| (0#8 ++ a) ∧
      t.trace = s.trace ++
        [.write (0#1 ++ s.addr) 0x1C 0x00 0x00, .read3 (0#1 ++ s.addr) st1 dh dl,
          .write (0#1 ++ s.addr) 0x5C hi lo, .read1 (0#1 ++ s.addr) st2] ∧
      t.replies = s.replies ++ [.ok .noValue] ∧ t.answers = rest ∧ t.seq = .idle ∧ t.busy = false ∧
      t.addr = s.addr ∧ t.addrSet = s.addrSet ∧ t.mode = s.mode

/-- 30_encoding.md R81 for two derived operations: `RDCFG` is `RDREG 0x1C`, and a threshold change with a valid operand is
`WRREG.OR` of the converted word over zero, as to everything but the latches, after any number of steps. -/
def Obligations.DerivedOperationsExpand : Prop :=
  ∀ (s : State) (n : Nat) (t : State), s.seq = .idle →
    (operate .rdcfg n s = .next t → ∃ t', operate (.rdreg 0x1C) n s = .next t' ∧ t'.view = t.view) ∧
    (∀ q : Rat, 0 ≤ q → q ≤ 100 →
      ∀ p ∈ [(Instr.wrahon (some q), 0x58#8), (.wrahoff (some q), 0x59#8), (.wralon (some q), 0x5A#8),
        (.wraloff (some q), 0x5B#8)],
      operate p.1 n s = .next t →
        ∃ t', operate (.wrregOr p.2 0x0000 (humidityToBits q)) n s = .next t' ∧ t'.view = t.view)
end

