-- ==== Sys2Proof/Laws/Decode.lean ====
section
/-! SUPPORT. The fields of a packed request (30_encoding.md R60), so that no proof unfolds a bit field again. -/

namespace Sys2Proof

theorem Request.pack_op (op a8 : Byte) (w0 w1 : Word) (h : HumIn) : (Request.pack op a8 w0 w1 h).op = op := by
  apply BitVec.eq_of_getLsbD_eq
  intro i hi
  simp only [Request.op, Request.pack, BitVec.getLsbD_extractLsb', BitVec.getLsbD_append]
  simp only [hi, decide_true, Bool.true_and]
  rw [if_neg (by omega), if_neg (by omega), if_neg (by omega)]
  congr 1
  omega

theorem Request.pack_a8 (op a8 : Byte) (w0 w1 : Word) (h : HumIn) : (Request.pack op a8 w0 w1 h).a8 = a8 := by
  apply BitVec.eq_of_getLsbD_eq
  intro i hi
  simp only [Request.a8, Request.pack, BitVec.getLsbD_extractLsb', BitVec.getLsbD_append]
  simp only [hi, decide_true, Bool.true_and]
  rw [if_neg (by omega), if_neg (by omega), if_pos (by omega)]
  congr 1
  omega

theorem Request.pack_w0 (op a8 : Byte) (w0 w1 : Word) (h : HumIn) : (Request.pack op a8 w0 w1 h).w0 = w0 := by
  apply BitVec.eq_of_getLsbD_eq
  intro i hi
  simp only [Request.w0, Request.pack, BitVec.getLsbD_extractLsb', BitVec.getLsbD_append]
  simp only [hi, decide_true, Bool.true_and]
  rw [if_neg (by omega), if_pos (by omega)]
  congr 1
  omega

theorem Request.pack_w1 (op a8 : Byte) (w0 w1 : Word) (h : HumIn) : (Request.pack op a8 w0 w1 h).w1 = w1 := by
  apply BitVec.eq_of_getLsbD_eq
  intro i hi
  simp only [Request.w1, Request.pack, BitVec.getLsbD_extractLsb', BitVec.getLsbD_append]
  simp only [hi, decide_true, Bool.true_and]
  rw [if_pos (by omega)]
  congr 1
  omega

theorem Request.pack_hreq (op a8 : Byte) (w0 w1 : Word) (h : HumIn) : (Request.pack op a8 w0 w1 h).hreq = h := rfl

/-- A request is its four fields and its lane, packed. -/
theorem Request.pack_fields (r : Request) : Request.pack r.op r.a8 r.w0 r.w1 r.hreq = r := by
  obtain ⟨req, h⟩ := r
  simp only [Request.pack, Request.mk.injEq, and_true]
  apply BitVec.eq_of_getLsbD_eq
  intro i hi
  simp only [Request.op, Request.a8, Request.w0, Request.w1, BitVec.getLsbD_append, BitVec.getLsbD_extractLsb']
  split
  · next h1 => simp [h1]
  · split
    · next h1 h2 => simp [h2, show 16 + (i - 16) = i by omega]
    · split
      · next h1 h2 h3 => simp [h3, show 32 + (i - 16 - 16) = i by omega]
      · next h1 h2 h3 => simp [show i - 16 - 16 - 8 < 8 by omega, show 40 + (i - 16 - 16 - 8) = i by omega]

end Sys2Proof
end

