-- ==== Sys2Proof/Laws/State.lean ====
section
/-! SUPPORT. One lemma for each field of `State` after each update, so that no proof unfolds an update. -/

namespace Sys2Proof.Machine

@[simp] theorem consume_addr (n : Nat) (s : State) : (consume n s).addr = s.addr := rfl
@[simp] theorem consume_addrSet (n : Nat) (s : State) : (consume n s).addrSet = s.addrSet := rfl
@[simp] theorem consume_mode (n : Nat) (s : State) : (consume n s).mode = s.mode := rfl
@[simp] theorem consume_busy (n : Nat) (s : State) : (consume n s).busy = s.busy := rfl
@[simp] theorem consume_seq (n : Nat) (s : State) : (consume n s).seq = s.seq := rfl
@[simp] theorem consume_opr (n : Nat) (s : State) : (consume n s).opr = s.opr := rfl
@[simp] theorem consume_cmd (n : Nat) (s : State) : (consume n s).cmd = s.cmd := rfl
@[simp] theorem consume_txw (n : Nat) (s : State) : (consume n s).txw = s.txw := rfl
@[simp] theorem consume_rxw (n : Nat) (s : State) : (consume n s).rxw = s.rxw := rfl
@[simp] theorem consume_st (n : Nat) (s : State) : (consume n s).st = s.st := rfl
@[simp] theorem consume_pcnt (n : Nat) (s : State) : (consume n s).pcnt = s.pcnt := rfl
@[simp] theorem consume_pollLimit (n : Nat) (s : State) : (consume n s).pollLimit = s.pollLimit := rfl
@[simp] theorem consume_host (n : Nat) (s : State) : (consume n s).host = s.host := rfl
@[simp] theorem consume_answers (n : Nat) (s : State) : (consume n s).answers = s.answers.drop n := rfl
@[simp] theorem consume_draws (n : Nat) (s : State) : (consume n s).draws = s.draws + (n - s.answers.length) := rfl
@[simp] theorem consume_trace (n : Nat) (s : State) : (consume n s).trace = s.trace := rfl
@[simp] theorem consume_earlier (n : Nat) (s : State) : (consume n s).earlier = s.earlier := rfl
@[simp] theorem consume_replies (n : Nat) (s : State) : (consume n s).replies = s.replies := rfl

@[simp] theorem sendFrame_addr (b0 b1 b2 : Byte) (s : State) : (sendFrame b0 b1 b2 s).addr = s.addr := rfl
@[simp] theorem sendFrame_addrSet (b0 b1 b2 : Byte) (s : State) : (sendFrame b0 b1 b2 s).addrSet = s.addrSet := rfl
@[simp] theorem sendFrame_mode (b0 b1 b2 : Byte) (s : State) : (sendFrame b0 b1 b2 s).mode = s.mode := rfl
@[simp] theorem sendFrame_busy (b0 b1 b2 : Byte) (s : State) : (sendFrame b0 b1 b2 s).busy = s.busy := rfl
@[simp] theorem sendFrame_seq (b0 b1 b2 : Byte) (s : State) : (sendFrame b0 b1 b2 s).seq = s.seq := rfl
@[simp] theorem sendFrame_opr (b0 b1 b2 : Byte) (s : State) : (sendFrame b0 b1 b2 s).opr = s.opr := rfl
@[simp] theorem sendFrame_cmd (b0 b1 b2 : Byte) (s : State) : (sendFrame b0 b1 b2 s).cmd = s.cmd := rfl
@[simp] theorem sendFrame_txw (b0 b1 b2 : Byte) (s : State) : (sendFrame b0 b1 b2 s).txw = s.txw := rfl
@[simp] theorem sendFrame_rxw (b0 b1 b2 : Byte) (s : State) : (sendFrame b0 b1 b2 s).rxw = s.rxw := rfl
@[simp] theorem sendFrame_st (b0 b1 b2 : Byte) (s : State) : (sendFrame b0 b1 b2 s).st = s.st := rfl
@[simp] theorem sendFrame_pcnt (b0 b1 b2 : Byte) (s : State) : (sendFrame b0 b1 b2 s).pcnt = 0 := rfl
@[simp] theorem sendFrame_pollLimit (b0 b1 b2 : Byte) (s : State) : (sendFrame b0 b1 b2 s).pollLimit = s.pollLimit := rfl
@[simp] theorem sendFrame_host (b0 b1 b2 : Byte) (s : State) : (sendFrame b0 b1 b2 s).host = s.host := rfl
@[simp] theorem sendFrame_answers (b0 b1 b2 : Byte) (s : State) : (sendFrame b0 b1 b2 s).answers = s.answers := rfl
@[simp] theorem sendFrame_draws (b0 b1 b2 : Byte) (s : State) : (sendFrame b0 b1 b2 s).draws = s.draws := rfl
@[simp] theorem sendFrame_trace (b0 b1 b2 : Byte) (s : State) : (sendFrame b0 b1 b2 s).trace = s.trace ++ [.write (busAddr s.addr) b0 b1 b2] := rfl
@[simp] theorem sendFrame_earlier (b0 b1 b2 : Byte) (s : State) : (sendFrame b0 b1 b2 s).earlier = s.earlier := rfl
@[simp] theorem sendFrame_replies (b0 b1 b2 : Byte) (s : State) : (sendFrame b0 b1 b2 s).replies = s.replies := rfl

@[simp] theorem busRead1_addr (s : State) : (busRead1 s).addr = s.addr := rfl
@[simp] theorem busRead1_addrSet (s : State) : (busRead1 s).addrSet = s.addrSet := rfl
@[simp] theorem busRead1_mode (s : State) : (busRead1 s).mode = s.mode := rfl
@[simp] theorem busRead1_busy (s : State) : (busRead1 s).busy = s.busy := rfl
@[simp] theorem busRead1_seq (s : State) : (busRead1 s).seq = s.seq := rfl
@[simp] theorem busRead1_opr (s : State) : (busRead1 s).opr = s.opr := rfl
@[simp] theorem busRead1_cmd (s : State) : (busRead1 s).cmd = s.cmd := rfl
@[simp] theorem busRead1_txw (s : State) : (busRead1 s).txw = s.txw := rfl
@[simp] theorem busRead1_rxw (s : State) : (busRead1 s).rxw = s.rxw := rfl
@[simp] theorem busRead1_st (s : State) : (busRead1 s).st = answer s 0 := rfl
@[simp] theorem busRead1_pcnt (s : State) : (busRead1 s).pcnt = s.pcnt := rfl
@[simp] theorem busRead1_pollLimit (s : State) : (busRead1 s).pollLimit = s.pollLimit := rfl
@[simp] theorem busRead1_host (s : State) : (busRead1 s).host = s.host := rfl
@[simp] theorem busRead1_answers (s : State) : (busRead1 s).answers = s.answers.drop 1 := rfl
@[simp] theorem busRead1_draws (s : State) : (busRead1 s).draws = s.draws + (1 - s.answers.length) := rfl
@[simp] theorem busRead1_trace (s : State) : (busRead1 s).trace = s.trace ++ [.read1 (busAddr s.addr) (answer s 0)] := rfl
@[simp] theorem busRead1_earlier (s : State) : (busRead1 s).earlier = s.earlier := rfl
@[simp] theorem busRead1_replies (s : State) : (busRead1 s).replies = s.replies := rfl

@[simp] theorem busRead3_addr (s : State) : (busRead3 s).addr = s.addr := rfl
@[simp] theorem busRead3_addrSet (s : State) : (busRead3 s).addrSet = s.addrSet := rfl
@[simp] theorem busRead3_mode (s : State) : (busRead3 s).mode = s.mode := rfl
@[simp] theorem busRead3_busy (s : State) : (busRead3 s).busy = s.busy := rfl
@[simp] theorem busRead3_seq (s : State) : (busRead3 s).seq = s.seq := rfl
@[simp] theorem busRead3_opr (s : State) : (busRead3 s).opr = s.opr := rfl
@[simp] theorem busRead3_cmd (s : State) : (busRead3 s).cmd = s.cmd := rfl
@[simp] theorem busRead3_txw (s : State) : (busRead3 s).txw = s.txw := rfl
@[simp] theorem busRead3_rxw (s : State) : (busRead3 s).rxw = s.rxw := rfl
@[simp] theorem busRead3_st (s : State) : (busRead3 s).st = answer s 0 := rfl
@[simp] theorem busRead3_pcnt (s : State) : (busRead3 s).pcnt = s.pcnt := rfl
@[simp] theorem busRead3_pollLimit (s : State) : (busRead3 s).pollLimit = s.pollLimit := rfl
@[simp] theorem busRead3_host (s : State) : (busRead3 s).host = s.host := rfl
@[simp] theorem busRead3_answers (s : State) : (busRead3 s).answers = s.answers.drop 3 := rfl
@[simp] theorem busRead3_draws (s : State) : (busRead3 s).draws = s.draws + (3 - s.answers.length) := rfl
@[simp] theorem busRead3_trace (s : State) : (busRead3 s).trace = s.trace ++ [.read3 (busAddr s.addr) (answer s 0) (answer s 1) (answer s 2)] := rfl
@[simp] theorem busRead3_earlier (s : State) : (busRead3 s).earlier = s.earlier := rfl
@[simp] theorem busRead3_replies (s : State) : (busRead3 s).replies = s.replies := rfl

@[simp] theorem finish_addr (r : Reply) (s : State) : (finish r s).addr = s.addr := rfl
@[simp] theorem finish_addrSet (r : Reply) (s : State) : (finish r s).addrSet = s.addrSet := rfl
@[simp] theorem finish_mode (r : Reply) (s : State) : (finish r s).mode = s.mode := rfl
@[simp] theorem finish_busy (r : Reply) (s : State) : (finish r s).busy = false := rfl
@[simp] theorem finish_seq (r : Reply) (s : State) : (finish r s).seq = .idle := rfl
@[simp] theorem finish_opr (r : Reply) (s : State) : (finish r s).opr = s.opr := rfl
@[simp] theorem finish_cmd (r : Reply) (s : State) : (finish r s).cmd = s.cmd := rfl
@[simp] theorem finish_txw (r : Reply) (s : State) : (finish r s).txw = s.txw := rfl
@[simp] theorem finish_rxw (r : Reply) (s : State) : (finish r s).rxw = s.rxw := rfl
@[simp] theorem finish_st (r : Reply) (s : State) : (finish r s).st = s.st := rfl
@[simp] theorem finish_pcnt (r : Reply) (s : State) : (finish r s).pcnt = s.pcnt := rfl
@[simp] theorem finish_pollLimit (r : Reply) (s : State) : (finish r s).pollLimit = s.pollLimit := rfl
@[simp] theorem finish_host (r : Reply) (s : State) : (finish r s).host = s.host := rfl
@[simp] theorem finish_answers (r : Reply) (s : State) : (finish r s).answers = s.answers := rfl
@[simp] theorem finish_draws (r : Reply) (s : State) : (finish r s).draws = s.draws := rfl
@[simp] theorem finish_trace (r : Reply) (s : State) : (finish r s).trace = s.trace := rfl
@[simp] theorem finish_earlier (r : Reply) (s : State) : (finish r s).earlier = s.earlier := rfl
@[simp] theorem finish_replies (r : Reply) (s : State) : (finish r s).replies = s.replies ++ [r] := rfl

@[simp] theorem endSession_addr (s : State) : (endSession s).addr = Config.freeAddr s.draws := rfl
@[simp] theorem endSession_addrSet (s : State) : (endSession s).addrSet = false := rfl
@[simp] theorem endSession_mode (s : State) : (endSession s).mode = s.mode := rfl
@[simp] theorem endSession_busy (s : State) : (endSession s).busy = s.busy := rfl
@[simp] theorem endSession_seq (s : State) : (endSession s).seq = s.seq := rfl
@[simp] theorem endSession_opr (s : State) : (endSession s).opr = s.opr := rfl
@[simp] theorem endSession_cmd (s : State) : (endSession s).cmd = s.cmd := rfl
@[simp] theorem endSession_txw (s : State) : (endSession s).txw = s.txw := rfl
@[simp] theorem endSession_rxw (s : State) : (endSession s).rxw = s.rxw := rfl
@[simp] theorem endSession_st (s : State) : (endSession s).st = s.st := rfl
@[simp] theorem endSession_pcnt (s : State) : (endSession s).pcnt = s.pcnt := rfl
@[simp] theorem endSession_pollLimit (s : State) : (endSession s).pollLimit = s.pollLimit := rfl
@[simp] theorem endSession_host (s : State) : (endSession s).host = s.host := rfl
@[simp] theorem endSession_answers (s : State) : (endSession s).answers = s.answers := rfl
@[simp] theorem endSession_draws (s : State) : (endSession s).draws = s.draws + 1 := rfl
@[simp] theorem endSession_trace (s : State) : (endSession s).trace = s.trace := rfl
@[simp] theorem endSession_earlier (s : State) : (endSession s).earlier = s.earlier := rfl
@[simp] theorem endSession_replies (s : State) : (endSession s).replies = s.replies := rfl

@[simp] theorem resetEvent_addr (s : State) : (resetEvent s).addr = Config.freeAddr s.draws := rfl
@[simp] theorem resetEvent_addrSet (s : State) : (resetEvent s).addrSet = false := rfl
@[simp] theorem resetEvent_mode (s : State) : (resetEvent s).mode = .normal := rfl
@[simp] theorem resetEvent_busy (s : State) : (resetEvent s).busy = false := rfl
@[simp] theorem resetEvent_seq (s : State) : (resetEvent s).seq = .idle := rfl
@[simp] theorem resetEvent_opr (s : State) : (resetEvent s).opr = Config.freeOpr s.draws := rfl
@[simp] theorem resetEvent_cmd (s : State) : (resetEvent s).cmd = Config.freeCmd s.draws := rfl
@[simp] theorem resetEvent_txw (s : State) : (resetEvent s).txw = Config.freeTxw s.draws := rfl
@[simp] theorem resetEvent_rxw (s : State) : (resetEvent s).rxw = Config.freeRxw s.draws := rfl
@[simp] theorem resetEvent_st (s : State) : (resetEvent s).st = Config.freeSt s.draws := rfl
@[simp] theorem resetEvent_pcnt (s : State) : (resetEvent s).pcnt = Config.freePcnt s.draws := rfl
@[simp] theorem resetEvent_pollLimit (s : State) : (resetEvent s).pollLimit = s.pollLimit := rfl
@[simp] theorem resetEvent_host (s : State) : (resetEvent s).host = s.host := rfl
@[simp] theorem resetEvent_answers (s : State) : (resetEvent s).answers = s.answers := rfl
@[simp] theorem resetEvent_draws (s : State) : (resetEvent s).draws = s.draws + 1 := rfl
@[simp] theorem resetEvent_trace (s : State) : (resetEvent s).trace = [] := rfl
@[simp] theorem resetEvent_earlier (s : State) : (resetEvent s).earlier = s.earlier ++ s.trace := rfl
@[simp] theorem resetEvent_replies (s : State) : (resetEvent s).replies = s.replies := rfl

@[simp] theorem enterBusy_addr (q : Seq) (s : State) : (enterBusy q s).addr = s.addr := rfl
@[simp] theorem enterBusy_addrSet (q : Seq) (s : State) : (enterBusy q s).addrSet = s.addrSet := rfl
@[simp] theorem enterBusy_mode (q : Seq) (s : State) : (enterBusy q s).mode = s.mode := rfl
@[simp] theorem enterBusy_busy (q : Seq) (s : State) : (enterBusy q s).busy = true := rfl
@[simp] theorem enterBusy_seq (q : Seq) (s : State) : (enterBusy q s).seq = q := rfl
@[simp] theorem enterBusy_opr (q : Seq) (s : State) : (enterBusy q s).opr = s.opr := rfl
@[simp] theorem enterBusy_cmd (q : Seq) (s : State) : (enterBusy q s).cmd = s.cmd := rfl
@[simp] theorem enterBusy_txw (q : Seq) (s : State) : (enterBusy q s).txw = s.txw := rfl
@[simp] theorem enterBusy_rxw (q : Seq) (s : State) : (enterBusy q s).rxw = s.rxw := rfl
@[simp] theorem enterBusy_st (q : Seq) (s : State) : (enterBusy q s).st = s.st := rfl
@[simp] theorem enterBusy_pcnt (q : Seq) (s : State) : (enterBusy q s).pcnt = s.pcnt := rfl
@[simp] theorem enterBusy_pollLimit (q : Seq) (s : State) : (enterBusy q s).pollLimit = s.pollLimit := rfl
@[simp] theorem enterBusy_host (q : Seq) (s : State) : (enterBusy q s).host = s.host := rfl
@[simp] theorem enterBusy_answers (q : Seq) (s : State) : (enterBusy q s).answers = s.answers := rfl
@[simp] theorem enterBusy_draws (q : Seq) (s : State) : (enterBusy q s).draws = s.draws := rfl
@[simp] theorem enterBusy_trace (q : Seq) (s : State) : (enterBusy q s).trace = s.trace := rfl
@[simp] theorem enterBusy_earlier (q : Seq) (s : State) : (enterBusy q s).earlier = s.earlier := rfl
@[simp] theorem enterBusy_replies (q : Seq) (s : State) : (enterBusy q s).replies = s.replies := rfl

@[simp] theorem setBusy_addr (s : State) : (setBusy s).addr = s.addr := rfl
@[simp] theorem setBusy_addrSet (s : State) : (setBusy s).addrSet = s.addrSet := rfl
@[simp] theorem setBusy_mode (s : State) : (setBusy s).mode = s.mode := rfl
@[simp] theorem setBusy_busy (s : State) : (setBusy s).busy = true := rfl
@[simp] theorem setBusy_seq (s : State) : (setBusy s).seq = s.seq := rfl
@[simp] theorem setBusy_opr (s : State) : (setBusy s).opr = s.opr := rfl
@[simp] theorem setBusy_cmd (s : State) : (setBusy s).cmd = s.cmd := rfl
@[simp] theorem setBusy_txw (s : State) : (setBusy s).txw = s.txw := rfl
@[simp] theorem setBusy_rxw (s : State) : (setBusy s).rxw = s.rxw := rfl
@[simp] theorem setBusy_st (s : State) : (setBusy s).st = s.st := rfl
@[simp] theorem setBusy_pcnt (s : State) : (setBusy s).pcnt = s.pcnt := rfl
@[simp] theorem setBusy_pollLimit (s : State) : (setBusy s).pollLimit = s.pollLimit := rfl
@[simp] theorem setBusy_host (s : State) : (setBusy s).host = s.host := rfl
@[simp] theorem setBusy_answers (s : State) : (setBusy s).answers = s.answers := rfl
@[simp] theorem setBusy_draws (s : State) : (setBusy s).draws = s.draws := rfl
@[simp] theorem setBusy_trace (s : State) : (setBusy s).trace = s.trace := rfl
@[simp] theorem setBusy_earlier (s : State) : (setBusy s).earlier = s.earlier := rfl
@[simp] theorem setBusy_replies (s : State) : (setBusy s).replies = s.replies := rfl

@[simp] theorem takeInput_addr (s : State) : (takeInput s).addr = s.addr := rfl
@[simp] theorem takeInput_addrSet (s : State) : (takeInput s).addrSet = s.addrSet := rfl
@[simp] theorem takeInput_mode (s : State) : (takeInput s).mode = s.mode := rfl
@[simp] theorem takeInput_busy (s : State) : (takeInput s).busy = s.busy := rfl
@[simp] theorem takeInput_seq (s : State) : (takeInput s).seq = s.seq := rfl
@[simp] theorem takeInput_opr (s : State) : (takeInput s).opr = s.opr := rfl
@[simp] theorem takeInput_cmd (s : State) : (takeInput s).cmd = s.cmd := rfl
@[simp] theorem takeInput_txw (s : State) : (takeInput s).txw = s.txw := rfl
@[simp] theorem takeInput_rxw (s : State) : (takeInput s).rxw = s.rxw := rfl
@[simp] theorem takeInput_st (s : State) : (takeInput s).st = s.st := rfl
@[simp] theorem takeInput_pcnt (s : State) : (takeInput s).pcnt = s.pcnt := rfl
@[simp] theorem takeInput_pollLimit (s : State) : (takeInput s).pollLimit = s.pollLimit := rfl
@[simp] theorem takeInput_host (s : State) : (takeInput s).host = s.host.tail := rfl
@[simp] theorem takeInput_answers (s : State) : (takeInput s).answers = s.answers := rfl
@[simp] theorem takeInput_draws (s : State) : (takeInput s).draws = s.draws := rfl
@[simp] theorem takeInput_trace (s : State) : (takeInput s).trace = s.trace := rfl
@[simp] theorem takeInput_earlier (s : State) : (takeInput s).earlier = s.earlier := rfl
@[simp] theorem takeInput_replies (s : State) : (takeInput s).replies = s.replies := rfl

@[simp] theorem view_addr (s : State) : (s.view).addr = s.addr := rfl
@[simp] theorem view_addrSet (s : State) : (s.view).addrSet = s.addrSet := rfl
@[simp] theorem view_mode (s : State) : (s.view).mode = s.mode := rfl
@[simp] theorem view_busy (s : State) : (s.view).busy = s.busy := rfl
@[simp] theorem view_seq (s : State) : (s.view).seq = s.seq := rfl
@[simp] theorem view_opr (s : State) : (s.view).opr = .illegalOp 0 := rfl
@[simp] theorem view_cmd (s : State) : (s.view).cmd = 0 := rfl
@[simp] theorem view_txw (s : State) : (s.view).txw = 0 := rfl
@[simp] theorem view_rxw (s : State) : (s.view).rxw = 0 := rfl
@[simp] theorem view_st (s : State) : (s.view).st = 0 := rfl
@[simp] theorem view_pcnt (s : State) : (s.view).pcnt = 0 := rfl
@[simp] theorem view_pollLimit (s : State) : (s.view).pollLimit = s.pollLimit := rfl
@[simp] theorem view_host (s : State) : (s.view).host = s.host := rfl
@[simp] theorem view_answers (s : State) : (s.view).answers = s.answers := rfl
@[simp] theorem view_draws (s : State) : (s.view).draws = s.draws := rfl
@[simp] theorem view_trace (s : State) : (s.view).trace = s.trace := rfl
@[simp] theorem view_earlier (s : State) : (s.view).earlier = s.earlier := rfl
@[simp] theorem view_replies (s : State) : (s.view).replies = s.replies := rfl

@[simp] theorem pollRead1_addr (s : State) : (pollRead1 s).addr = s.addr := rfl
@[simp] theorem pollRead1_addrSet (s : State) : (pollRead1 s).addrSet = s.addrSet := rfl
@[simp] theorem pollRead1_mode (s : State) : (pollRead1 s).mode = s.mode := rfl
@[simp] theorem pollRead1_busy (s : State) : (pollRead1 s).busy = s.busy := rfl
@[simp] theorem pollRead1_seq (s : State) : (pollRead1 s).seq = s.seq := rfl
@[simp] theorem pollRead1_opr (s : State) : (pollRead1 s).opr = s.opr := rfl
@[simp] theorem pollRead1_cmd (s : State) : (pollRead1 s).cmd = s.cmd := rfl
@[simp] theorem pollRead1_txw (s : State) : (pollRead1 s).txw = s.txw := rfl
@[simp] theorem pollRead1_rxw (s : State) : (pollRead1 s).rxw = s.rxw := rfl
@[simp] theorem pollRead1_st (s : State) : (pollRead1 s).st = answer s 0 := rfl
@[simp] theorem pollRead1_pcnt (s : State) : (pollRead1 s).pcnt = s.pcnt + 1 := rfl
@[simp] theorem pollRead1_pollLimit (s : State) : (pollRead1 s).pollLimit = s.pollLimit := rfl
@[simp] theorem pollRead1_host (s : State) : (pollRead1 s).host = s.host := rfl
@[simp] theorem pollRead1_answers (s : State) : (pollRead1 s).answers = s.answers.drop 1 := rfl
@[simp] theorem pollRead1_draws (s : State) : (pollRead1 s).draws = s.draws + (1 - s.answers.length) := rfl
@[simp] theorem pollRead1_trace (s : State) : (pollRead1 s).trace = s.trace ++ [.read1 (busAddr s.addr) (answer s 0)] := rfl
@[simp] theorem pollRead1_earlier (s : State) : (pollRead1 s).earlier = s.earlier := rfl
@[simp] theorem pollRead1_replies (s : State) : (pollRead1 s).replies = s.replies := rfl

@[simp] theorem pollRead3_addr (s : State) : (pollRead3 s).addr = s.addr := rfl
@[simp] theorem pollRead3_addrSet (s : State) : (pollRead3 s).addrSet = s.addrSet := rfl
@[simp] theorem pollRead3_mode (s : State) : (pollRead3 s).mode = s.mode := rfl
@[simp] theorem pollRead3_busy (s : State) : (pollRead3 s).busy = s.busy := rfl
@[simp] theorem pollRead3_seq (s : State) : (pollRead3 s).seq = s.seq := rfl
@[simp] theorem pollRead3_opr (s : State) : (pollRead3 s).opr = s.opr := rfl
@[simp] theorem pollRead3_cmd (s : State) : (pollRead3 s).cmd = s.cmd := rfl
@[simp] theorem pollRead3_txw (s : State) : (pollRead3 s).txw = s.txw := rfl
@[simp] theorem pollRead3_rxw (s : State) : (pollRead3 s).rxw = s.rxw := rfl
@[simp] theorem pollRead3_st (s : State) : (pollRead3 s).st = answer s 0 := rfl
@[simp] theorem pollRead3_pcnt (s : State) : (pollRead3 s).pcnt = s.pcnt + 1 := rfl
@[simp] theorem pollRead3_pollLimit (s : State) : (pollRead3 s).pollLimit = s.pollLimit := rfl
@[simp] theorem pollRead3_host (s : State) : (pollRead3 s).host = s.host := rfl
@[simp] theorem pollRead3_answers (s : State) : (pollRead3 s).answers = s.answers.drop 3 := rfl
@[simp] theorem pollRead3_draws (s : State) : (pollRead3 s).draws = s.draws + (3 - s.answers.length) := rfl
@[simp] theorem pollRead3_trace (s : State) : (pollRead3 s).trace = s.trace ++ [.read3 (busAddr s.addr) (answer s 0) (answer s 1) (answer s 2)] := rfl
@[simp] theorem pollRead3_earlier (s : State) : (pollRead3 s).earlier = s.earlier := rfl
@[simp] theorem pollRead3_replies (s : State) : (pollRead3 s).replies = s.replies := rfl

@[simp] theorem answer_setBusy (s : State) (k : Nat) : answer (setBusy s) k = answer s k := rfl
@[simp] theorem answer_sendFrame (b0 b1 b2 : Byte) (s : State) (k : Nat) :
    answer (sendFrame b0 b1 b2 s) k = answer s k := rfl

end Sys2Proof.Machine
end

