-- ==== Sys2Proof/Laws/Ops.lean ====
section
/-! SUPPORT. For each shared operation, once, everything it can do; proofs cite these and unfold nothing. -/

namespace Sys2Proof.Machine

/-! ### Answers of the environment -/

theorem answer_listed (s : State) (k : Nat) (h : k < s.answers.length) : answer s k = s.answers[k] := by
  simp [answer, h]

theorem answer_free (s : State) (k : Nat) (h : s.answers.length ≤ k) :
    answer s k = Config.freeAnswer (s.draws + (k - s.answers.length)) := by
  simp [answer, List.getElem?_eq_none h]

/-- After `n` bytes, the environment's next byte is the one that was `n` further on. -/
theorem answer_consume (n k : Nat) (s : State) : answer (consume n s) k = answer s (n + k) := by
  rcases Nat.lt_or_ge (n + k) s.answers.length with h | h
  · rw [answer_listed s _ h, answer_listed _ _ (by simp; omega)]
    simp
  · rw [answer_free s _ h, answer_free _ _ (by simp; omega)]
    simp only [consume_draws, consume_answers, List.length_drop]
    congr 1
    omega

/-! ### Acceptance -/

theorem respond_eq (r : Result) (s : State) : respond r s = .next (finish (.ok r) s) := rfl

theorem raise_eq (f : Failure) (s : State) : raise f s = .next (finish (.fail f) s) := rfl

theorem needCommandMode_normal (k : State → Answer) (s : State) (h : s.mode = .normal) :
    needCommandMode k s = .next (finish (.fail .notInCommandMode) s) := by
  simp [needCommandMode, h, raise]

theorem needCommandMode_inCommandMode (k : State → Answer) (s : State) (h : s.mode = .inCommandMode) :
    needCommandMode k s = k s := by
  simp [needCommandMode, h]

theorem needAddress_set (k : State → Answer) (s : State) (h : s.addrSet = true) : needAddress k s = k s := by
  simp [needAddress, h]

theorem needAddress_unset (k : State → Answer) (s : State) (h : s.addrSet = false) :
    needAddress k s = .next (finish (.fail .noAddress) s) := by
  simp [needAddress, h, raise]

/-! ### The sequencer: which step runs -/

theorem microStep_idle (i : Instr) (r : Routine) (s : State) (h : s.seq = .idle) :
    microStep i r s = r.accept { s with opr := .instr i } := by simp [microStep, h]

theorem microStep_startTx (i : Instr) (r : Routine) (s : State) (h : s.seq = .startTx) :
    microStep i r s = stepStartTx s := by simp [microStep, h]

theorem microStep_startRx (i : Instr) (r : Routine) (s : State) (h : s.seq = .startRx) :
    microStep i r s = stepStartRx s := by simp [microStep, h]

theorem microStep_exitTx (i : Instr) (r : Routine) (s : State) (h : s.seq = .exitTx) :
    microStep i r s = stepExitTx r.onExit s := by simp [microStep, h]

theorem microStep_rdTx (i : Instr) (r : Routine) (s : State) (h : s.seq = .rdTx) :
    microStep i r s = stepRdTx s := by simp [microStep, h]

theorem microStep_rdPoll (i : Instr) (r : Routine) (s : State) (h : s.seq = .rdPoll) :
    microStep i r s = stepRdPoll r.onRead s := by simp [microStep, h]

theorem microStep_wrTx (i : Instr) (r : Routine) (s : State) (h : s.seq = .wrTx) :
    microStep i r s = stepWrTx s := by simp [microStep, h]

theorem microStep_wrPoll (i : Instr) (r : Routine) (s : State) (h : s.seq = .wrPoll) :
    microStep i r s = stepWrPoll s := by simp [microStep, h]

/-! ### The deciding micro-steps: everything they can do -/

/-- Everything `START_RX` can do. -/
theorem stepStartRx_cases (s : State) :
    ((statusDecode (answer s 0)).cm = true ∧
      stepStartRx s = .next (finish (.ok .noValue) { busRead1 s with mode := .inCommandMode })) ∨
    ((statusDecode (answer s 0)).cm = false ∧
      stepStartRx s = .next (finish (.fail .enterFailed) (busRead1 s))) := by
  cases h : (statusDecode (answer s 0)).cm <;> simp [stepStartRx, h, respond, raise]

/-- Everything `WR_POLL` can do. -/
theorem stepWrPoll_cases (s : State) :
    ((statusDecode (answer s 0)).done = false ∧ s.pcnt + 1 < s.pollLimit ∧
      stepWrPoll s = .next (pollRead1 s)) ∨
    ((statusDecode (answer s 0)).done = false ∧ ¬ s.pcnt + 1 < s.pollLimit ∧
      stepWrPoll s = .next (finish (.fail .timeout) (pollRead1 s))) ∨
    ((statusDecode (answer s 0)).done = true ∧ (statusDecode (answer s 0)).ack = false ∧
      stepWrPoll s = .next (finish (.fail .deviceNack) (pollRead1 s))) ∨
    ((statusDecode (answer s 0)).done = true ∧ (statusDecode (answer s 0)).ack = true ∧
      stepWrPoll s = .next (finish (.ok .noValue) (pollRead1 s))) := by
  cases hd : (statusDecode (answer s 0)).done <;> cases ha : (statusDecode (answer s 0)).ack <;>
    by_cases hl : s.pcnt + 1 < s.pollLimit <;> simp [stepWrPoll, hd, ha, hl, respond, raise]

/-- Everything `RD_POLL` can do; in the last case the operation continues with the word read. -/
theorem stepRdPoll_cases (k : Word → State → Answer) (s : State) :
    ((statusDecode (answer s 0)).done = false ∧ s.pcnt + 1 < s.pollLimit ∧
      stepRdPoll k s = .next (pollRead3 s)) ∨
    ((statusDecode (answer s 0)).done = false ∧ ¬ s.pcnt + 1 < s.pollLimit ∧
      stepRdPoll k s = .next (finish (.fail .timeout) (pollRead3 s))) ∨
    ((statusDecode (answer s 0)).done = true ∧ (statusDecode (answer s 0)).ack = false ∧
      stepRdPoll k s = .next (finish (.fail .deviceNack) (pollRead3 s))) ∨
    ((statusDecode (answer s 0)).done = true ∧ (statusDecode (answer s 0)).ack = true ∧
      stepRdPoll k s = k (readWord s) { pollRead3 s with rxw := readWord s }) := by
  cases hd : (statusDecode (answer s 0)).done <;> cases ha : (statusDecode (answer s 0)).ack <;>
    by_cases hl : s.pcnt + 1 < s.pollLimit <;> simp [stepRdPoll, hd, ha, hl, raise]

/-! ### The argument test -/

/-- Everything the range test of a threshold change can answer. -/
theorem humArgument_cases (h : HumIn) :
    (humArgument h = none ∧ ∀ q, h = some q → q < 0 ∨ 100 < q) ∨
    (∃ q, h = some q ∧ 0 ≤ q ∧ q ≤ 100 ∧ humArgument h = some q) := by
  cases h with
  | none => exact .inl ⟨rfl, by simp⟩
  | some q =>
    by_cases hq : q < 0 ∨ (100 : Rat) < q
    · exact .inl ⟨by simp [humArgument, humInVal, Config.HUM_FULL, hq], by rintro _ ⟨⟩; exact hq⟩
    · refine .inr ⟨q, rfl, ?_, ?_, by simp [humArgument, humInVal, Config.HUM_FULL, hq]⟩
      · exact not_lt.mp fun h => hq (.inl h)
      · exact not_lt.mp fun h => hq (.inr h)

/-! ### The host port -/

theorem turn_reset (s : State) (rest : List HostInput) (h : s.host = .reset :: rest) :
    turn s = .settle (resetEvent (takeInput s)) := by simp [turn, h]

theorem turn_request (s : State) (r : Request) (rest : List HostInput) (h : s.host = .request r :: rest)
    (hq : s.seq = .idle) (hb : s.busy = false) : turn s = acceptRequest r s := by simp [turn, h, hq, hb]

theorem turn_rest (s : State) (h : s.host = []) (hq : s.seq = .idle) : turn s = .settle s := by simp [turn, h, hq]

/-- While an operation is in progress a presented request is held. -/
theorem turn_held (s : State) (r : Request) (rest : List HostInput) (h : s.host = .request r :: rest)
    (hq : s.seq ≠ .idle) : turn s = resume s := by
  cases hs : s.seq <;> simp_all [turn]

end Sys2Proof.Machine
end

