-- ==== Sys2Proof/Laws/Exec.lean ====
section
/-! SUPPORT. Every operation as a routine of the sequencer, and once what its acceptance and its continuation can do. -/

namespace Sys2Proof.Machine

/-- The routine of each operation: what its meaning hands to `microStep`. -/
def routine : Instr → Routine
  | .setaddr a =>
    { accept := fun t =>
        if addrTooBig a then raise .invalidArgument t
        else match t.mode with
          | .inCommandMode => raise .inCommandMode t
          | .normal => respond .noValue { t with addr := low7 a, addrSet := true } }
  | .enter => { accept := needAddress fun t => .next (enterBusy .startTx t) }
  | .exit => { accept := needAddress fun t => .next (enterBusy .exitTx t) }
  | .teardown =>
    { accept := fun t =>
        match t.mode with
        | .normal => respond .noValue (endSession t)
        | .inCommandMode => .next (enterBusy .exitTx t)
      onExit := endSession }
  | .rdreg cmd => readRoutine cmd fun v => respond (.word v)
  | .wrregOr cmd old new => writeRoutine cmd (combine .or old new)
  | .wrregAnd cmd old mask => writeRoutine cmd (combine .and old mask)
  | .rdahon => thresholdRead Config.CMD_RD_AH_ON
  | .rdahoff => thresholdRead Config.CMD_RD_AH_OFF
  | .rdalon => thresholdRead Config.CMD_RD_AL_ON
  | .rdaloff => thresholdRead Config.CMD_RD_AL_OFF
  | .rdcfg => readRoutine Config.CMD_RD_CFG fun v => respond (.word v)
  | .wrahon h => thresholdWrite Config.CMD_WR_AH_ON h
  | .wrahoff h => thresholdWrite Config.CMD_WR_AH_OFF h
  | .wralon h => thresholdWrite Config.CMD_WR_AL_ON h
  | .wraloff h => thresholdWrite Config.CMD_WR_AL_OFF h
  | .chgaddr a =>
    { accept := fun t =>
        if addrTooBig a then raise .invalidArgument t
        else needCommandMode (beginRead Config.CMD_RD_CFG) t
      onRead := fun v => continueWrite (changedAddress v a) }
  | .alpolSet => cfgSet Config.B_ALPOL
  | .alpolClr => cfgClear Config.M_ALPOL_CLR
  | .aloutSet => cfgSet Config.B_ALOUT
  | .aloutClr => cfgClear Config.M_ALOUT_CLR
  | .ahpolSet => cfgSet Config.B_AHPOL
  | .ahpolClr => cfgClear Config.M_AHPOL_CLR
  | .ahoutSet => cfgSet Config.B_AHOUT
  | .ahoutClr => cfgClear Config.M_AHOUT_CLR
  | .su3msSet => cfgSet Config.B_SU3MS
  | .su3msClr => cfgClear Config.M_SU3MS_CLR
  | .b2h raw => { accept := respond (.hum (bitsToHumidity raw)) }
  | .h2b h => { accept := respond (.word (humidityOperandToBits h)) }

/-- Every meaning is a micro-step of its routine. -/
theorem exec_eq_microStep (i : Instr) (s : State) : exec i s = microStep i (routine i) s := by
  cases i <;> rfl

theorem mode_cases (m : Mode) : m = .normal ∨ m = .inCommandMode := by cases m <;> simp

/-- The operation is accepted for bus traffic: the command latches are loaded, `BUSY` is set, and `SEQ` is its first state. -/
def AcceptsForBus (i : Instr) (s : State) : Prop :=
  ∃ (q : Seq) (c : Byte) (w : Word), q ≠ .idle ∧ i.admits q = true ∧ inPoll q = false ∧ q ≠ .startRx ∧
    (inTransaction q = true → s.mode = .inCommandMode) ∧ (s.addrSet = true ∨ s.mode = .inCommandMode) ∧
    (routine i).accept s = .next { s with cmd := c, txw := w, busy := true, seq := q }

/-- Everything acceptance can do: end with a failure of the operation's row, set the address, end the session, convert,
or go on to the operation's first bus event. -/
def AcceptCases (i : Instr) (s : State) : Prop :=
  (∃ f ∈ i.failures, (routine i).accept s = .next (finish (.fail f) s)) ∨
  (∃ a, i = .setaddr a ∧ s.mode = .normal ∧ a.toNat ≤ 0x7F ∧
    (routine i).accept s = .next (finish (.ok .noValue) { s with addr := low7 a, addrSet := true })) ∨
  (i = .teardown ∧ s.mode = .normal ∧ (routine i).accept s = .next (finish (.ok .noValue) (endSession s))) ∨
  (∃ raw, i = .b2h raw ∧ (routine i).accept s = .next (finish (.ok (.hum (bitsToHumidity raw))) s)) ∨
  (∃ h, i = .h2b h ∧ (routine i).accept s = .next (finish (.ok (.word (humidityOperandToBits h))) s)) ∨
  AcceptsForBus i s

/-- A register operation past its argument test: refused in Normal, accepted in command mode. -/
theorem registerOp_accept_cases (i : Instr) (s : State) (q : Seq) (c : Byte) (w : Word) (hi : i.admits q = true)
    (hq : q = .rdTx ∨ q = .wrTx) (hf : Failure.notInCommandMode ∈ i.failures)
    (ha : (routine i).accept s =
      needCommandMode (fun s => .next { s with cmd := c, txw := w, busy := true, seq := q }) s) :
    AcceptCases i s := by
  rcases mode_cases s.mode with hm | hm
  · exact .inl ⟨_, hf, by rw [ha, needCommandMode_normal _ _ hm]⟩
  · refine .inr (.inr (.inr (.inr (.inr ⟨q, c, w, ?_, hi, ?_, ?_, fun _ => hm, .inr hm, by
      rw [ha, needCommandMode_inCommandMode _ _ hm]⟩)))) <;> rcases hq with rfl | rfl <;> simp [inPoll]

theorem accept_cases (i : Instr) (s : State) : AcceptCases i s := by
  cases i with
  | setaddr a =>
    by_cases ha : addrTooBig a = true
    · exact .inl ⟨.invalidArgument, by simp [Instr.failures], by simp [routine, ha, raise]⟩
    · rcases mode_cases s.mode with hm | hm
      · refine .inr (.inl ⟨a, rfl, hm, ?_, by simp [routine, ha, hm, respond]⟩)
        have := ha
        simp only [addrTooBig, Config.ADDR_MAX, BitVec.lt_def, decide_eq_true_eq] at this
        simpa using this
      · exact .inl ⟨.inCommandMode, by simp [Instr.failures], by simp [routine, ha, hm, raise]⟩
  | enter =>
    rcases Bool.eq_false_or_eq_true s.addrSet with ha | ha
    · exact .inr (.inr (.inr (.inr (.inr ⟨.startTx, s.cmd, s.txw, by simp, rfl, rfl, by simp, by simp [inTransaction],
        .inl ha, by simp [routine, needAddress, ha, enterBusy]⟩))))
    · exact .inl ⟨.noAddress, by simp [Instr.failures], by simp [routine, needAddress, ha, raise]⟩
  | exit =>
    rcases Bool.eq_false_or_eq_true s.addrSet with ha | ha
    · exact .inr (.inr (.inr (.inr (.inr ⟨.exitTx, s.cmd, s.txw, by simp, rfl, rfl, by simp, by simp [inTransaction],
        .inl ha, by simp [routine, needAddress, ha, enterBusy]⟩))))
    · exact .inl ⟨.noAddress, by simp [Instr.failures], by simp [routine, needAddress, ha, raise]⟩
  | teardown =>
    rcases mode_cases s.mode with hm | hm
    · exact .inr (.inr (.inl ⟨rfl, hm, by simp [routine, hm, respond]⟩))
    · exact .inr (.inr (.inr (.inr (.inr ⟨.exitTx, s.cmd, s.txw, by simp, rfl, rfl, by simp, by simp [inTransaction],
        .inr hm, by simp [routine, hm, enterBusy]⟩))))
  | b2h raw => exact .inr (.inr (.inr (.inl ⟨raw, rfl, rfl⟩)))
  | h2b h => exact .inr (.inr (.inr (.inr (.inl ⟨h, rfl, rfl⟩))))
  | wrahon h | wrahoff h | wralon h | wraloff h =>
    rcases humArgument_cases h with ⟨ha, -⟩ | ⟨q, -, -, -, ha⟩
    · exact .inl ⟨.invalidArgument, by simp [Instr.failures], by simp [routine, thresholdWrite, ha, raise]⟩
    · exact registerOp_accept_cases _ s .wrTx _ (combine .or 0x0000 (humidityToBits q)) rfl (.inr rfl) (by simp [Instr.failures])
        (by simp only [routine, thresholdWrite, ha]; rfl)
  | chgaddr a =>
    by_cases ha : addrTooBig a = true
    · exact .inl ⟨.invalidArgument, by simp [Instr.failures], by simp [routine, ha, raise]⟩
    · exact registerOp_accept_cases _ s .rdTx Config.CMD_RD_CFG s.txw rfl (.inl rfl) (by simp [Instr.failures]) (by
        rcases mode_cases s.mode with hm | hm <;> simp [routine, ha, needCommandMode, hm, beginRead, enterBusy])
  | wrregOr cmd old new => exact registerOp_accept_cases _ s .wrTx cmd (combine .or old new) rfl (.inr rfl) (by simp [Instr.failures]) rfl
  | wrregAnd cmd old mask => exact registerOp_accept_cases _ s .wrTx cmd (combine .and old mask) rfl (.inr rfl) (by simp [Instr.failures]) rfl
  | rdreg cmd =>
    exact registerOp_accept_cases _ s .rdTx cmd s.txw rfl (.inl rfl) (by simp [Instr.failures]) (by
      rcases mode_cases s.mode with hm | hm <;> simp [routine, readRoutine, needCommandMode, hm, beginRead, enterBusy])
  | rdahon | rdahoff | rdalon | rdaloff =>
    exact registerOp_accept_cases _ s .rdTx _ s.txw rfl (.inl rfl) (by simp [Instr.failures]) (by
      (rcases mode_cases s.mode with hm | hm <;> simp [routine, thresholdRead, readRoutine, needCommandMode, hm, beginRead, enterBusy]); rfl)
  | rdcfg =>
    exact registerOp_accept_cases _ s .rdTx Config.CMD_RD_CFG s.txw rfl (.inl rfl) (by simp [Instr.failures]) (by
      rcases mode_cases s.mode with hm | hm <;> simp [routine, readRoutine, needCommandMode, hm, beginRead, enterBusy])
  | alpolSet | aloutSet | ahpolSet | ahoutSet | su3msSet =>
    exact registerOp_accept_cases _ s .rdTx Config.CMD_RD_CFG s.txw rfl (.inl rfl) (by simp [Instr.failures]) (by
      rcases mode_cases s.mode with hm | hm <;> simp [routine, cfgSet, readRoutine, needCommandMode, hm, beginRead, enterBusy])
  | alpolClr | aloutClr | ahpolClr | ahoutClr | su3msClr =>
    exact registerOp_accept_cases _ s .rdTx Config.CMD_RD_CFG s.txw rfl (.inl rfl) (by simp [Instr.failures]) (by
      rcases mode_cases s.mode with hm | hm <;> simp [routine, cfgClear, readRoutine, needCommandMode, hm, beginRead, enterBusy])

/-- Everything a continuation can do, by the shape of the operation. -/
theorem onRead_cases (i : Instr) (v : Word) (s : State) :
    (i.shape = .read ∧ i.deliversWord = true ∧ ∃ r, (routine i).onRead v s = .next (finish (.ok r) s) ∧
      (i.deliversHumidity = false ∧ r = .word v ∨ i.deliversHumidity = true ∧ r = .wordHum v (bitsToHumidity v))) ∨
    (i.shape = .change ∧ ∃ w, (routine i).onRead v s = .next { s with txw := w, cmd := Config.CMD_WR_CFG, seq := .wrTx }) ∨
    (i.shape ≠ .read ∧ i.shape ≠ .change ∧ (routine i).onRead v s = .fault .noContinuation) := by
  cases i with
  | setaddr a => exact .inr (.inr ⟨by simp [Instr.shape], by simp [Instr.shape], rfl⟩)
  | enter | exit | teardown => exact .inr (.inr ⟨by simp [Instr.shape], by simp [Instr.shape], rfl⟩)
  | wrregOr | wrregAnd | wrahon | wrahoff | wralon | wraloff | b2h | h2b =>
    exact .inr (.inr ⟨by simp [Instr.shape], by simp [Instr.shape], rfl⟩)
  | rdreg | rdcfg => exact .inl ⟨rfl, rfl, _, rfl, .inl ⟨rfl, rfl⟩⟩
  | rdahon | rdahoff | rdalon | rdaloff => exact .inl ⟨rfl, rfl, _, rfl, .inr ⟨rfl, rfl⟩⟩
  | chgaddr | alpolSet | alpolClr | aloutSet | aloutClr | ahpolSet | ahpolClr | ahoutSet | ahoutClr | su3msSet | su3msClr =>
    exact .inr (.inl ⟨rfl, _, rfl⟩)

/-- What `EXIT_TX` adds: `TEARDOWN` ends the session, every other operation adds nothing. -/
theorem onExit_cases (i : Instr) (s : State) :
    (i = .teardown ∧ (routine i).onExit s = endSession s) ∨ (i ≠ .teardown ∧ (routine i).onExit s = s) := by
  cases i <;> first | exact .inl ⟨rfl, rfl⟩ | exact .inr ⟨by simp, rfl⟩

end Sys2Proof.Machine
end

