-- ==== Sys2Proof/Laws/PerInstr.lean ====
section
/-! SUPPORT. Statements about every instruction, one lemma for each constructor of `Instr`. -/

namespace Sys2Proof.Laws.EncodeWellFormed

/-- What the encoder writes is the encoding of an assembler line (30_encoding.md R80). -/
def Statement (i : Instr) : Prop := (encode i).wellFormed = true

theorem setaddr (a : Byte) : Statement (.setaddr a) := by
  simp [Statement, Request.wellFormed, encode, decode, Request.ofA,
    Request.pack_op, Request.pack_a8, Request.pack_w0, Request.pack_w1, Request.pack_hreq, Instr.format,
    Request.a8Ok, Request.w0Ok, Request.w1Ok, Request.hreqOk, Format.readsA8, Format.readsW0, Format.readsW1,
    Format.readsHreq]

theorem enter : Statement .enter := by
  unfold Statement; decide

theorem exit : Statement .exit := by
  unfold Statement; decide

theorem teardown : Statement .teardown := by
  unfold Statement; decide

theorem rdreg (cmd : Byte) : Statement (.rdreg cmd) := by
  simp [Statement, Request.wellFormed, encode, decode, Request.ofA,
    Request.pack_op, Request.pack_a8, Request.pack_w0, Request.pack_w1, Request.pack_hreq, Instr.format,
    Request.a8Ok, Request.w0Ok, Request.w1Ok, Request.hreqOk, Format.readsA8, Format.readsW0, Format.readsW1,
    Format.readsHreq]

theorem wrregOr (cmd : Byte) (old : Word) (new : Word) : Statement (.wrregOr cmd old new) := by
  simp [Statement, Request.wellFormed, encode, decode, Request.ofW,
    Request.pack_op, Request.pack_a8, Request.pack_w0, Request.pack_w1, Request.pack_hreq, Instr.format,
    Request.a8Ok, Request.w0Ok, Request.w1Ok, Request.hreqOk, Format.readsA8, Format.readsW0, Format.readsW1,
    Format.readsHreq]

theorem wrregAnd (cmd : Byte) (old : Word) (mask : Word) : Statement (.wrregAnd cmd old mask) := by
  simp [Statement, Request.wellFormed, encode, decode, Request.ofW,
    Request.pack_op, Request.pack_a8, Request.pack_w0, Request.pack_w1, Request.pack_hreq, Instr.format,
    Request.a8Ok, Request.w0Ok, Request.w1Ok, Request.hreqOk, Format.readsA8, Format.readsW0, Format.readsW1,
    Format.readsHreq]

theorem rdahon : Statement .rdahon := by
  unfold Statement; decide

theorem rdahoff : Statement .rdahoff := by
  unfold Statement; decide

theorem rdalon : Statement .rdalon := by
  unfold Statement; decide

theorem rdaloff : Statement .rdaloff := by
  unfold Statement; decide

theorem rdcfg : Statement .rdcfg := by
  unfold Statement; decide

theorem wrahon (h : HumIn) : Statement (.wrahon h) := by
  simp [Statement, Request.wellFormed, encode, decode, Request.ofH,
    Request.pack_op, Request.pack_a8, Request.pack_w0, Request.pack_w1, Request.pack_hreq, Instr.format,
    Request.a8Ok, Request.w0Ok, Request.w1Ok, Request.hreqOk, Format.readsA8, Format.readsW0, Format.readsW1,
    Format.readsHreq]

theorem wrahoff (h : HumIn) : Statement (.wrahoff h) := by
  simp [Statement, Request.wellFormed, encode, decode, Request.ofH,
    Request.pack_op, Request.pack_a8, Request.pack_w0, Request.pack_w1, Request.pack_hreq, Instr.format,
    Request.a8Ok, Request.w0Ok, Request.w1Ok, Request.hreqOk, Format.readsA8, Format.readsW0, Format.readsW1,
    Format.readsHreq]

theorem wralon (h : HumIn) : Statement (.wralon h) := by
  simp [Statement, Request.wellFormed, encode, decode, Request.ofH,
    Request.pack_op, Request.pack_a8, Request.pack_w0, Request.pack_w1, Request.pack_hreq, Instr.format,
    Request.a8Ok, Request.w0Ok, Request.w1Ok, Request.hreqOk, Format.readsA8, Format.readsW0, Format.readsW1,
    Format.readsHreq]

theorem wraloff (h : HumIn) : Statement (.wraloff h) := by
  simp [Statement, Request.wellFormed, encode, decode, Request.ofH,
    Request.pack_op, Request.pack_a8, Request.pack_w0, Request.pack_w1, Request.pack_hreq, Instr.format,
    Request.a8Ok, Request.w0Ok, Request.w1Ok, Request.hreqOk, Format.readsA8, Format.readsW0, Format.readsW1,
    Format.readsHreq]

theorem chgaddr (a : Byte) : Statement (.chgaddr a) := by
  simp [Statement, Request.wellFormed, encode, decode, Request.ofA,
    Request.pack_op, Request.pack_a8, Request.pack_w0, Request.pack_w1, Request.pack_hreq, Instr.format,
    Request.a8Ok, Request.w0Ok, Request.w1Ok, Request.hreqOk, Format.readsA8, Format.readsW0, Format.readsW1,
    Format.readsHreq]

theorem alpolSet : Statement .alpolSet := by
  unfold Statement; decide

theorem alpolClr : Statement .alpolClr := by
  unfold Statement; decide

theorem aloutSet : Statement .aloutSet := by
  unfold Statement; decide

theorem aloutClr : Statement .aloutClr := by
  unfold Statement; decide

theorem ahpolSet : Statement .ahpolSet := by
  unfold Statement; decide

theorem ahpolClr : Statement .ahpolClr := by
  unfold Statement; decide

theorem ahoutSet : Statement .ahoutSet := by
  unfold Statement; decide

theorem ahoutClr : Statement .ahoutClr := by
  unfold Statement; decide

theorem su3msSet : Statement .su3msSet := by
  unfold Statement; decide

theorem su3msClr : Statement .su3msClr := by
  unfold Statement; decide

theorem b2h (raw : Word) : Statement (.b2h raw) := by
  simp [Statement, Request.wellFormed, encode, decode, Request.ofC,
    Request.pack_op, Request.pack_a8, Request.pack_w0, Request.pack_w1, Request.pack_hreq, Instr.format,
    Request.a8Ok, Request.w0Ok, Request.w1Ok, Request.hreqOk, Format.readsA8, Format.readsW0, Format.readsW1,
    Format.readsHreq]

theorem h2b (h : HumIn) : Statement (.h2b h) := by
  simp [Statement, Request.wellFormed, encode, decode, Request.ofH,
    Request.pack_op, Request.pack_a8, Request.pack_w0, Request.pack_w1, Request.pack_hreq, Instr.format,
    Request.a8Ok, Request.w0Ok, Request.w1Ok, Request.hreqOk, Format.readsA8, Format.readsW0, Format.readsW1,
    Format.readsHreq]

end Sys2Proof.Laws.EncodeWellFormed
end

