-- ==== Sys2Proof/Tests/Slice0.lean ====
section
/-! SUPPORT. Tests of the model: words and expected values are those of spec/ (30_encoding.md R80, 95_test_vectors.md and the
examples of the operation rules), and a witness for every statement that has hypotheses. -/

namespace Sys2Proof.Tests

open Sys2Proof Sys2Proof.Machine

/-! ### Well-formed requests: one ill-formed request for each check -/

theorem test_wellFormed_accepts : Request.wellFormed ⟨0x012700000000, some 0⟩ = true := by decide
theorem test_wellFormed_refuses_illegal_op : Request.wellFormed ⟨0x000000000000, some 0⟩ = false := by decide
theorem test_wellFormed_refuses_unused_a8 : Request.wellFormed ⟨0x025500000000, some 0⟩ = false := by decide
theorem test_wellFormed_refuses_unused_w0 : Request.wellFormed ⟨0x0200AAAA0000, some 0⟩ = false := by decide
theorem test_wellFormed_refuses_unused_w1 : Request.wellFormed ⟨0x020000005555, some 0⟩ = false := by decide
theorem test_wellFormed_refuses_unused_hreq : Request.wellFormed ⟨0x020000000000, none⟩ = false := by decide

/-! ### Decoding: every constructor from a word written out from its row of 30_encoding.md R63 -/

theorem test_decode_lifecycle :
    decode ⟨0x012700000000, some 0⟩ = .instr (.setaddr 0x27) ∧
    decode ⟨0x0255AAAA5555, some 0⟩ = .instr .enter ∧
    decode ⟨0x030000000000, some 0⟩ = .instr .exit ∧
    decode ⟨0x040000000000, some 0⟩ = .instr .teardown := by decide

theorem test_decode_primitives :
    decode ⟨0x101C00000000, some 0⟩ = .instr (.rdreg 0x1C) ∧
    decode ⟨0x115800003331, some 0⟩ = .instr (.wrregOr 0x58 0x0000 0x3331) ∧
    decode ⟨0x125C1227EFFF, some 0⟩ = .instr (.wrregAnd 0x5C 0x1227 0xEFFF) := by decide

theorem test_decode_read_accessors :
    decode ⟨0x200000000000, some 0⟩ = .instr .rdahon ∧
    decode ⟨0x210000000000, some 0⟩ = .instr .rdahoff ∧
    decode ⟨0x220000000000, some 0⟩ = .instr .rdalon ∧
    decode ⟨0x230000000000, some 0⟩ = .instr .rdaloff ∧
    decode ⟨0x240000000000, some 0⟩ = .instr .rdcfg := by decide

theorem test_decode_threshold_changes :
    decode ⟨0x300000000000, some 80⟩ = .instr (.wrahon (some 80)) ∧
    decode ⟨0x310000000000, some 75⟩ = .instr (.wrahoff (some 75)) ∧
    decode ⟨0x320000000000, some 20⟩ = .instr (.wralon (some 20)) ∧
    decode ⟨0x330000000000, none⟩ = .instr (.wraloff none) := by decide

theorem test_decode_config_changes :
    decode ⟨0x402000000000, some 0⟩ = .instr (.chgaddr 0x20) ∧
    decode ⟨0x410000000000, some 0⟩ = .instr .alpolSet ∧
    decode ⟨0x420000000000, some 0⟩ = .instr .alpolClr ∧
    decode ⟨0x430000000000, some 0⟩ = .instr .aloutSet ∧
    decode ⟨0x440000000000, some 0⟩ = .instr .aloutClr ∧
    decode ⟨0x450000000000, some 0⟩ = .instr .ahpolSet ∧
    decode ⟨0x460000000000, some 0⟩ = .instr .ahpolClr ∧
    decode ⟨0x470000000000, some 0⟩ = .instr .ahoutSet ∧
    decode ⟨0x480000000000, some 0⟩ = .instr .ahoutClr ∧
    decode ⟨0x490000000000, some 0⟩ = .instr .su3msSet ∧
    decode ⟨0x4A0000000000, some 0⟩ = .instr .su3msClr := by decide

theorem test_decode_conversions :
    decode ⟨0x50001FFF0000, some 0⟩ = .instr (.b2h 0x1FFF) ∧
    decode ⟨0x510000000000, some 101⟩ = .instr (.h2b (some 101)) := by decide

/-- 95_test_vectors.md 2.9. -/
theorem test_decode_refuses_illegal_ops :
    decode ⟨0x000000000000, some 0⟩ = .illegalOp 0x00 ∧ decode ⟨0x050000000000, some 0⟩ = .illegalOp 0x05 ∧
    decode ⟨0x130000000000, some 0⟩ = .illegalOp 0x13 ∧ decode ⟨0x4B0000000000, some 0⟩ = .illegalOp 0x4B ∧
    decode ⟨0x520000000000, some 0⟩ = .illegalOp 0x52 ∧ decode ⟨0xFFFFFFFFFFFF, some 0⟩ = .illegalOp 0xFF := by decide

/-- The table numbering: `OP` in bits 47:40; with fewer bits there is no `OP`. -/
theorem test_decodeTableWord :
    decodeTableWord 48 0x115C00000040 = some (.wrregOr 0x5C 0x0000 0x0040) ∧
    decodeTableWord 48 0xFF0000000000 = none ∧ decodeTableWord 40 0x020000000000 = none := by decide

/-! ### One micro-step of every operation -/

/-- Session `(1,27,m)` with `POLL_LIMIT = 3`, in sequencer state `q`, the given bytes next on the bus. -/
def session (m : Mode) (q : Seq) (answers : List Byte) : State where
  addr := 0x27
  addrSet := true
  mode := m
  busy := decide (q ≠ .idle)
  seq := q
  opr := .illegalOp 0
  cmd := 0x1C
  txw := 0x1220
  rxw := 0
  st := 0
  pcnt := 0
  pollLimit := 3
  host := []
  answers := answers
  draws := 0
  trace := []
  earlier := []
  replies := []

/-- What `f` sees in the next state, if there is one. -/
def seen {α : Type} (f : State → α) : Answer → Option α
  | .next t => some (f t)
  | .fault _ => none
  | .refused _ => none

/-- The frame loaded at acceptance: next state, command byte, word. -/
def loaded (t : State) : Seq × Byte × Word := (t.seq, t.cmd, t.txw)

/-- What an operation ended with: responses, `MODE`, bus trace. -/
def ended (t : State) : List Reply × Mode × List BusEvent := (t.replies, t.mode, t.trace)

/-- The session registers `(ADDR_SET, ADDR, MODE)` and the responses. -/
def registers (t : State) : Bool × Addr × Mode × List Reply := (t.addrSet, t.addr, t.mode, t.replies)

/-- A read poll that is about to see `[81, hi, lo]`. -/
def reading (hi lo : Byte) : State := session .inCommandMode .rdPoll [0x81, hi, lo]

theorem test_setaddr_in_range : seen registers (exec (.setaddr 0x7F) (session .normal .idle [])) =
    some (true, 0x7F, .normal, [.ok .noValue]) := by decide
theorem test_setaddr_range_before_mode : seen registers (exec (.setaddr 0x80) (session .inCommandMode .idle [])) =
    some (true, 0x27, .inCommandMode, [.fail .invalidArgument]) := by decide
theorem test_enter_enters : seen ended (exec .enter (session .normal .startRx [0x80])) =
    some ([.ok .noValue], .inCommandMode, [.read1 0x27 0x80]) := by decide
theorem test_enter_fails_and_keeps_mode : seen ended (exec .enter (session .inCommandMode .startRx [0x7F])) =
    some ([.fail .enterFailed], .inCommandMode, [.read1 0x27 0x7F]) := by decide
theorem test_exit_in_normal_sends_frame : seen ended (exec .exit (session .normal .exitTx [])) =
    some ([.ok .noValue], .normal, [.write 0x27 0x80 0x00 0x00]) := by decide
theorem test_exit_needs_address : seen registers (exec .exit { session .normal .idle [] with addrSet := false }) =
    some (false, 0x27, .normal, [.fail .noAddress]) := by decide
theorem test_teardown_in_normal_is_silent : seen ended (exec .teardown (session .normal .idle [])) =
    some ([.ok .noValue], .normal, []) := by decide
theorem test_teardown_ends_session : seen (fun t => (t.addrSet, t.mode, t.trace)) (exec .teardown (session .inCommandMode .exitTx [])) =
    some (false, .normal, [.write 0x27 0x80 0x00 0x00]) := by decide
theorem test_rdreg_delivers_big_endian : seen (fun t => (t.replies, t.rxw)) (exec (.rdreg 0x1C) (reading 0x12 0x27)) =
    some ([.ok (.word 0x1227)], 0x1227) := by decide
theorem test_rdreg_last_busy_read_times_out :
    seen (fun t => (t.replies, t.pcnt, t.seq)) (exec (.rdreg 0x1C) { session .inCommandMode .rdPoll [0x80, 0x12, 0x27] with pcnt := 2 }) =
      some ([.fail .timeout], 3, .idle) := by decide
theorem test_wrregOr_combines : seen loaded (exec (.wrregOr 0x5C 0x1227 0x0080) (session .inCommandMode .idle [])) =
    some (.wrTx, 0x5C, 0x12A7) := by decide
theorem test_wrregOr_done_without_ack : seen ended (exec (.wrregOr 0x5C 0xFFFF 0) (session .inCommandMode .wrPoll [0x82])) =
    some ([.fail .deviceNack], .inCommandMode, [.read1 0x27 0x82]) := by decide
theorem test_wrregAnd_combines : seen loaded (exec (.wrregAnd 0x5C 0x1227 0xEFFF) (session .inCommandMode .idle [])) =
    some (.wrTx, 0x5C, 0x0227) := by decide
theorem test_wrregAnd_sends_high_byte_first :
    seen (fun t => (t.trace, t.seq)) (exec (.wrregAnd 0x1C 0 0) { session .inCommandMode .wrTx [] with txw := 0xFF80 }) =
      some ([.write 0x27 0x1C 0xFF 0x80], .wrPoll) := by decide
theorem test_rdahon_accepts : seen loaded (exec .rdahon (session .inCommandMode .idle [])) = some (.rdTx, 0x18, 0x1220) := by decide
theorem test_rdahon_converts : seen (·.replies) (exec .rdahon (reading 0x33 0x31)) =
    some [.ok (.wordHum 0x3331 (655250 / 8191))] := by decide +kernel
theorem test_rdahoff_accepts : seen loaded (exec .rdahoff (session .inCommandMode .idle [])) = some (.rdTx, 0x19, 0x1220) := by decide
theorem test_rdahoff_converts : seen (·.replies) (exec .rdahoff (reading 0x2F 0xFE)) =
    some [.ok (.wordHum 0x2FFE (614300 / 8191))] := by decide +kernel
theorem test_rdalon_accepts : seen loaded (exec .rdalon (session .inCommandMode .idle [])) = some (.rdTx, 0x1A, 0x1220) := by decide
theorem test_rdalon_converts : seen (·.replies) (exec .rdalon (reading 0x0C 0xCC)) =
    some [.ok (.wordHum 0x0CCC (163800 / 8191))] := by decide +kernel
theorem test_rdaloff_accepts : seen loaded (exec .rdaloff (session .inCommandMode .idle [])) = some (.rdTx, 0x1B, 0x1220) := by decide
theorem test_rdaloff_drops_data_without_ack :
    seen (·.replies) (exec .rdaloff (session .inCommandMode .rdPoll [0x82, 0x0F, 0xFF])) = some [.fail .deviceNack] := by decide
theorem test_rdcfg_refused_in_normal : seen ended (exec .rdcfg (session .normal .idle [])) =
    some ([.fail .notInCommandMode], .normal, []) := by decide
theorem test_rdcfg_delivers_the_old_sentinel : seen (·.replies) (exec .rdcfg (reading 0x00 0x64)) =
    some [.ok (.word 0x0064)] := by decide
theorem test_wrahon_word : seen loaded (exec (.wrahon (some 80)) (session .inCommandMode .idle [])) =
    some (.wrTx, 0x58, 0x3331) := by decide +kernel
theorem test_wrahon_range_before_mode : seen (·.replies) (exec (.wrahon (some 120)) (session .normal .idle [])) =
    some [.fail .invalidArgument] := by decide +kernel
theorem test_wrahoff_word : seen loaded (exec (.wrahoff (some 75)) (session .inCommandMode .idle [])) =
    some (.wrTx, 0x59, 0x2FFE) := by decide +kernel
theorem test_wralon_word : seen loaded (exec (.wralon (some 20)) (session .inCommandMode .idle [])) =
    some (.wrTx, 0x5A, 0x0CCC) := by decide +kernel
theorem test_wraloff_word : seen loaded (exec (.wraloff (some 25)) (session .inCommandMode .idle [])) =
    some (.wrTx, 0x5B, 0x0FFF) := by decide +kernel
theorem test_wraloff_not_a_number : seen (·.replies) (exec (.wraloff none) (session .normal .idle [])) =
    some [.fail .invalidArgument] := by decide +kernel
theorem test_chgaddr_writes_address : seen loaded (exec (.chgaddr 0x20) (reading 0x12 0x27)) = some (.wrTx, 0x5C, 0x1220) := by decide
theorem test_chgaddr_clears_bit6 : seen loaded (exec (.chgaddr 0x20) (reading 0xFF 0xFF)) = some (.wrTx, 0x5C, 0xFFA0) := by decide
theorem test_alpolSet_sets_bit6 : seen loaded (exec .alpolSet (reading 0x00 0x27)) = some (.wrTx, 0x5C, 0x0067) := by decide
theorem test_alpolClr_clears_bit6 : seen loaded (exec .alpolClr (reading 0x00 0x67)) = some (.wrTx, 0x5C, 0x0027) := by decide
theorem test_aloutSet_sets_bit7 : seen loaded (exec .aloutSet (reading 0x00 0x27)) = some (.wrTx, 0x5C, 0x00A7) := by decide
theorem test_aloutClr_clears_bit7 : seen loaded (exec .aloutClr (reading 0xFF 0xFF)) = some (.wrTx, 0x5C, 0xFF7F) := by decide
theorem test_ahpolSet_sets_bit8 : seen loaded (exec .ahpolSet (reading 0x00 0x27)) = some (.wrTx, 0x5C, 0x0127) := by decide
theorem test_ahpolClr_clears_bit8 : seen loaded (exec .ahpolClr (reading 0xFF 0xFF)) = some (.wrTx, 0x5C, 0xFEFF) := by decide
theorem test_ahoutSet_sets_bit9 : seen loaded (exec .ahoutSet (reading 0x00 0x27)) = some (.wrTx, 0x5C, 0x0227) := by decide
theorem test_ahoutClr_clears_bit9 : seen loaded (exec .ahoutClr (reading 0x12 0x27)) = some (.wrTx, 0x5C, 0x1027) := by decide
theorem test_su3msSet_sets_bit12 : seen loaded (exec .su3msSet (reading 0x00 0x27)) = some (.wrTx, 0x5C, 0x1027) := by decide
theorem test_su3msClr_clears_bit12 : seen loaded (exec .su3msClr (reading 0x10 0x27)) = some (.wrTx, 0x5C, 0x0027) := by decide
theorem test_b2h_has_no_upper_clamp : seen (·.replies) (exec (.b2h 0xFFFF) (session .normal .idle [])) =
    some [.ok (.hum (3276750 / 8191))] := by decide +kernel
theorem test_h2b_floors_once : seen (·.replies) (exec (.h2b (some (101 / 2))) (session .normal .idle [])) =
    some [.ok (.word 0x2050)] := by decide +kernel
theorem test_h2b_saturates : seen (·.replies) (exec (.h2b (some 1000)) (session .inCommandMode .idle [])) =
    some [.ok (.word 0xFFFF)] := by decide +kernel

/-- 95_test_vectors.md 2.3 rows 1 and 3, 2.9 row 1: the response words. -/
theorem test_response_words :
    (Reply.ok (.word 0x1227)).rsp = 0x011227 ∧ (Reply.fail .deviceNack).rsp = 0x060000 ∧
    (Reply.fail .illegalOp).rsp = 0x100000 := by decide

/-- 95_test_vectors.md 2.4 row 5: the decoded-field lanes of a `RDCFG`. -/
theorem test_config_lanes : (Reply.ok (.word 0x1227)).fields = ⟨0x27, false, false, false, true, true⟩ := by decide

/-! ### Witnesses: a state and operands that meet the hypotheses of each statement that has hypotheses -/

/-- An idle Normal session with the given host inputs. -/
def hosting (l : List HostInput) : State := { session .normal .idle [] with host := l }

/-- A `RDCFG` in progress, in the state of its first poll read. -/
def polling (answers : List Byte) : State := { session .inCommandMode .rdPoll answers with opr := .instr .rdcfg }

theorem polling_inv (answers : List Byte) : (polling answers).Inv where
  limit := by simp [polling, session]
  busySeq := by simp [polling, session]
  modeAddr := by simp [polling, session]
  busAddrSet := by simp [polling, session]
  transactionMode := by simp [polling, session]
  oprFits := fun _ => ⟨.rdcfg, rfl, rfl⟩
  pollCount := by simp [polling, session]

theorem witness_EncodeOfDecodeIsIdentity :
    (Request.mk 0x012700000000 (some 0)).wellFormed = true ∧
    decode ⟨0x012700000000, some 0⟩ = .instr (.setaddr 0x27) := by decide

theorem witness_UnassignedOp_step :
    (0x00#8).toNat ∉ assignedOps ∧ (0xFF#8).toNat ∉ assignedOps ∧
    (Request.mk 0xFF0000000000 (some 0)).op = 0xFF ∧
    (hosting [.request ⟨0xFF0000000000, some 0⟩]).host = .request ⟨0xFF0000000000, some 0⟩ :: [] ∧
    (hosting [.request ⟨0xFF0000000000, some 0⟩]).seq = .idle ∧
    (hosting [.request ⟨0xFF0000000000, some 0⟩]).busy = false := by decide

theorem witness_UnusedFields :
    decode ⟨0x020000000000, some 0⟩ = .instr .enter ∧
    (Request.mk 0x02FFFFFFFFFF none).op = (Request.mk 0x020000000000 (some 0)).op ∧
    Instr.enter.format.readsA8 = false ∧ Instr.enter.format.readsW0 = false ∧
    Instr.enter.format.readsW1 = false ∧ Instr.enter.format.readsHreq = false := by decide

theorem witness_StepRunsTheDecodedRequest :
    (hosting [.request ⟨0x020000000000, some 0⟩]).host = .request ⟨0x020000000000, some 0⟩ :: [] ∧
    (hosting [.request ⟨0x020000000000, some 0⟩]).seq = .idle ∧
    (hosting [.request ⟨0x020000000000, some 0⟩]).busy = false ∧
    decode ⟨0x020000000000, some 0⟩ = .instr .enter := by decide

theorem witness_StepResumes_quiet :
    { polling [] with host := [.quiet] }.seq ≠ .idle ∧ { polling [] with host := [.quiet] }.opr = .instr .rdcfg ∧
    { polling [] with host := [.quiet] }.host.head? ≠ some .reset ∧
    { polling [] with host := [.quiet] }.host.head? = some .quiet := by decide

theorem witness_StepResumes_other :
    (polling []).seq ≠ .idle ∧ (polling []).opr = .instr .rdcfg ∧ (polling []).host.head? ≠ some .reset ∧
    (polling []).host.head? ≠ some .quiet := by decide

theorem witness_RequestIsHeldWhileBusy :
    { polling [0x80, 0, 0] with host := [.request ⟨0, none⟩] }.host = .request ⟨0, none⟩ :: [] ∧
    { polling [0x80, 0, 0] with host := [.request ⟨0, none⟩] }.seq ≠ .idle ∧
    ∃ t, step { polling [0x80, 0, 0] with host := [.request ⟨0, none⟩] } = .next t :=
  ⟨rfl, by decide, _, rfl⟩

theorem witness_IdleEngineRests : (hosting []).host = [] ∧ (hosting []).seq = .idle := by decide

theorem witness_ResetEvent : { polling [] with host := [.reset, .quiet] }.host = .reset :: [.quiet] := by decide

theorem witness_EveryStepKeepsTheInvariant :
    (polling [0x80, 0, 0]).Inv ∧ ∃ t, step (polling [0x80, 0, 0]) = .next t := ⟨polling_inv _, _, rfl⟩

theorem witness_NoStepStopsUnderTheInvariant : (polling [0x82, 0, 0]).Inv := polling_inv _

theorem witness_BusEventsCarryTheConfiguredAddress :
    (polling [0x80, 0, 0]).Inv ∧ ∃ t, step (polling [0x80, 0, 0]) = .next t ∧
      t.trace = (polling [0x80, 0, 0]).trace ++ [.read3 0x27 0x80 0 0] := ⟨polling_inv _, _, rfl, rfl⟩

theorem witness_OnlySetaddrAndTeardown :
    (∃ t, exec .enter (session .normal .idle []) = .next t) ∧ (∀ a, Instr.enter ≠ .setaddr a) ∧
    Instr.enter ≠ .teardown := ⟨⟨_, rfl⟩, by simp, by simp⟩

theorem witness_AddressIsKeptInCommandMode :
    (∃ t, exec (.setaddr 0x28) (session .inCommandMode .idle []) = .next t) ∧
    (session .inCommandMode .idle []).mode = .inCommandMode ∧ Instr.setaddr 0x28 ≠ .teardown :=
  ⟨⟨_, rfl⟩, rfl, by simp⟩

theorem witness_ModeRises :
    ∃ t, exec .enter (session .normal .startRx [0x80]) = .next t ∧ Instr.enter.admits .startRx = true ∧
      (session .normal .startRx [0x80]).mode = .normal ∧ t.mode = .inCommandMode := ⟨_, rfl, rfl, rfl, rfl⟩

theorem witness_ModeFalls :
    ∃ t, exec .exit (session .inCommandMode .exitTx []) = .next t ∧ Instr.exit.admits .exitTx = true ∧
      (session .inCommandMode .exitTx []).mode = .inCommandMode ∧ t.mode = .normal := ⟨_, rfl, rfl, rfl, rfl⟩

theorem witness_EndingDeliversOneResponse_ends :
    ∃ t, exec .rdcfg (polling [0x81, 0x12, 0x27]) = .next t ∧ t.seq = .idle := ⟨_, rfl, rfl⟩

theorem witness_EndingDeliversOneResponse_goes_on :
    ∃ t, exec .rdcfg (polling [0x80, 0, 0]) = .next t ∧ t.seq ≠ .idle := ⟨_, rfl, by decide⟩

theorem witness_FailureLeavesTheSessionUnchanged :
    ∃ t, exec .rdcfg (polling [0x82, 0, 0]) = .next t ∧ ∃ f, t.replies = (polling [0x82, 0, 0]).replies ++ [.fail f] :=
  ⟨_, rfl, .deviceNack, rfl⟩

theorem witness_FailureOutcomesAreThoseOfTheMatrix :
    ∃ t, exec .rdcfg (polling [0x82, 0, 0]) = .next t ∧ Instr.rdcfg.admits .rdPoll = true ∧
      t.replies = (polling [0x82, 0, 0]).replies ++ [.fail .deviceNack] := ⟨_, rfl, rfl, rfl⟩

/-- `7D` and `01` differ in bits 6:2 only; so do `FC` and `80`. -/
theorem witness_OnlyTheNamedStatusBitsMatter :
    (0x7D#8).extractLsb' 0 2 = (0x01#8).extractLsb' 0 2 ∧ (0xFC#8).getLsbD 7 = (0x80#8).getLsbD 7 ∧
    (∃ t, exec .rdcfg (polling (0x7D :: [0x12, 0x27])) = .next t) ∧
    ∃ t, exec .enter (session .normal .startRx (0xFC :: [])) = .next t := ⟨by decide, by decide, ⟨_, rfl⟩, _, rfl⟩

/-- Every sequencer state in either mode, `ADDR_SET` in either value: the lifecycle and acceptance statements. -/
theorem witness_lifecycle_and_acceptance :
    (session .normal .idle []).seq = .idle ∧ (session .normal .idle []).mode = .normal ∧
    (session .normal .idle []).addrSet = true ∧ { session .normal .idle [] with addrSet := false }.addrSet = false ∧
    (session .inCommandMode .idle []).seq = .idle ∧ (session .inCommandMode .idle []).mode = .inCommandMode ∧
    (session .normal .startTx []).seq = .startTx ∧ (session .normal .startRx []).seq = .startRx ∧
    (session .inCommandMode .exitTx []).seq = .exitTx ∧
    (answer (session .normal .idle [0x80]) 0).getLsbD 7 = true ∧
    (answer (session .normal .idle [0x7F]) 0).getLsbD 7 = false := by decide

/-- The operand ranges at their ends: addresses 7F and 80, humidities 0, 100 and just outside. -/
theorem witness_argument_ranges :
    (0x7F#8).toNat ≤ 0x7F ∧ 0x7F < (0x80#8).toNat ∧ (0 : Rat) ≤ 0 ∧ (100 : Rat) ≤ 100 ∧
    (-1 / 1000 : Rat) < 0 ∧ (100 : Rat) < 100001 / 1000 ∧ (∀ q, (none : HumIn) = some q → q < 0 ∨ 100 < q) ∧
    Instr.su3msClr.shape = .change ∧ (Instr.chgaddr 0x7F).shape = .change := by
  refine ⟨by decide, by decide, by norm_num, by norm_num, by norm_num, by norm_num, by simp, rfl, rfl⟩

theorem witness_RegisterOperationsAreRefusedInNormal :
    (Instr.wrahon (some 120)).isRegisterOp = true ∧ Instr.rdcfg.isRegisterOp = true ∧
    (session .normal .idle []).seq = .idle ∧ (session .normal .idle []).mode = .normal := by decide

theorem witness_transactions :
    (session .inCommandMode .rdTx []).seq = .rdTx ∧ (session .inCommandMode .wrTx []).seq = .wrTx ∧
    (session .inCommandMode .wrPoll []).seq = .wrPoll ∧ (polling []).seq = .rdPoll ∧
    (answer (polling [0xFC]) 0).extractLsb' 0 2 = 0#2 ∧ (answer (polling [0xFE]) 0).extractLsb' 0 2 = 2#2 ∧
    (answer (polling [0x01]) 0).getLsbD 0 = true ∧ (answer (polling [0x83]) 0).getLsbD 0 = true := by decide

/-- The polls with a read left, one left (`PCNT + 1 = POLL_LIMIT`) and two left; busy, not acknowledged, and `OK`. -/
theorem witness_polls :
    { session .inCommandMode .wrPoll [0x80] with pcnt := 2 }.seq = .wrPoll ∧
    { session .inCommandMode .wrPoll [0x80] with pcnt := 2 }.pcnt < { session .inCommandMode .wrPoll [0x80] with pcnt := 2 }.pollLimit ∧
    { session .inCommandMode .wrPoll [0x80] with pcnt := 2 }.pcnt + 1 = { session .inCommandMode .wrPoll [0x80] with pcnt := 2 }.pollLimit ∧
    (session .inCommandMode .wrPoll [0x80]).pcnt + 1 ≠ (session .inCommandMode .wrPoll [0x80]).pollLimit ∧
    (answer (session .inCommandMode .wrPoll [0x80]) 0).extractLsb' 0 2 = 0#2 ∧
    (answer (session .inCommandMode .wrPoll [0x82]) 0).getLsbD 0 = false ∧
    (answer (session .inCommandMode .wrPoll [0x81]) 0).getLsbD 0 = true ∧
    { polling [0x80] with pcnt := 2 }.pcnt < { polling [0x80] with pcnt := 2 }.pollLimit ∧
    { polling [0x80] with pcnt := 2 }.pcnt + 1 = { polling [0x80] with pcnt := 2 }.pollLimit ∧
    (polling [0x82]).pcnt < (polling [0x82]).pollLimit := by decide

theorem test_write_poll_completes : seen ended (exec (.wrahon (some 80)) (session .inCommandMode .wrPoll [0x81])) =
    some ([.ok .noValue], .inCommandMode, [.read1 0x27 0x81]) := by decide

/-- The silent cases of the bus-event table, and the ones that are not. -/
theorem witness_BusEventsAreBounded :
    Instr.teardown.mostBusEvents (session .normal .idle []) = 0 ∧
    Instr.teardown.mostBusEvents (session .inCommandMode .idle []) = 1 ∧
    Instr.exit.mostBusEvents { session .normal .idle [] with addrSet := false } = 0 ∧
    Instr.exit.mostBusEvents (session .normal .idle []) = 1 ∧
    (Instr.chgaddr 0x7F).mostBusEvents (session .inCommandMode .idle []) = 8 ∧
    (Instr.chgaddr 0x80).mostBusEvents (session .inCommandMode .idle []) = 0 ∧
    Instr.rdcfg.mostBusEvents (session .normal .idle []) = 0 ∧
    ∃ t, operate .rdcfg 2 (session .inCommandMode .idle []) = .next t :=
  ⟨by decide, by decide, by decide, by decide, by decide, by decide, by decide, _, rfl⟩

theorem witness_ConversionOperations :
    (session .normal .idle []).seq = .idle ∧ (none : HumIn) = none ∧ (some 50 : HumIn) = some 50 := by decide

theorem witness_HumidityRoundTrip : (0 : Rat) ≤ 0 ∧ (0 : Rat) ≤ 100 ∧ (100 : Rat) ≤ 100 := by norm_num

theorem witness_ResponseLanes :
    (Reply.fail .timeout).valid = false ∧ (Reply.fail .timeout).hvalid = false ∧
    (Reply.ok (.hum 50)).humidity? = some 50 ∧
    ∃ t, exec .rdcfg (polling [0x81, 0x12, 0x27]) = .next t ∧ Instr.rdcfg.admits .rdPoll = true ∧
      t.replies = (polling [0x81, 0x12, 0x27]).replies ++ [.ok (.word 0x1227)] :=
  ⟨rfl, rfl, rfl, _, rfl, rfl, rfl⟩

theorem witness_whole_operations :
    (session .inCommandMode .idle []).seq = .idle ∧ 1 ≤ (session .inCommandMode .idle []).pollLimit ∧
    1 ≤ { session .inCommandMode .idle [] with pollLimit := 1 }.pollLimit ∧
    ∃ t, operate .rdcfg 1 (session .inCommandMode .idle []) = .next t := ⟨rfl, by decide, by decide, _, rfl⟩

theorem witness_PresentedRequestIsAnswered :
    (hosting [.request ⟨0x030000000000, some 0⟩]).host = .request ⟨0x030000000000, some 0⟩ :: [] ∧
    (∀ x, ([] : List HostInput).head? = some x → ∃ r', x = .request r') ∧
    (hosting [.request ⟨0x030000000000, some 0⟩]).seq = .idle ∧
    (hosting [.request ⟨0x030000000000, some 0⟩]).busy = false ∧
    1 ≤ (hosting [.request ⟨0x030000000000, some 0⟩]).pollLimit ∧
    decode ⟨0x030000000000, some 0⟩ = .instr .exit := by
  refine ⟨by decide, by simp, by decide, by decide, by decide, by decide⟩

/-- The same with another request behind the first. -/
theorem witness_PresentedRequestIsAnswered_followed :
    (hosting [.request ⟨0x030000000000, some 0⟩, .request ⟨0x240000000000, some 0⟩]).host =
      .request ⟨0x030000000000, some 0⟩ :: [.request ⟨0x240000000000, some 0⟩] ∧
    (∀ x, [HostInput.request ⟨0x240000000000, some 0⟩].head? = some x → ∃ r', x = .request r') ∧
    (hosting [.request ⟨0x030000000000, some 0⟩, .request ⟨0x240000000000, some 0⟩]).seq = .idle ∧
    (hosting [.request ⟨0x030000000000, some 0⟩, .request ⟨0x240000000000, some 0⟩]).busy = false ∧
    1 ≤ (hosting [.request ⟨0x030000000000, some 0⟩, .request ⟨0x240000000000, some 0⟩]).pollLimit := by
  refine ⟨rfl, ?_, rfl, rfl, by decide⟩
  rintro _ ⟨⟩
  exact ⟨_, rfl⟩

/-- A reset event empties the trace, which counts since reset (R12), and keeps what was sent (R210). -/
theorem test_reset_event_restarts_trace :
    seen (fun t => (t.trace, t.earlier, t.replies, t.seq))
      (step { polling [] with host := [.reset], trace := [.write 0x27 0x1C 0 0], earlier := [.read1 0x27 0x81] }) =
        some ([], [.read1 0x27 0x81, .write 0x27 0x1C 0 0], [], .idle) := by decide

theorem witness_AtMostOneBusEventPerStep :
    (∃ t, step { polling [] with host := [.reset] } = .next t) ∧ { polling [] with host := [.reset] }.host.head? = some .reset ∧
    (∃ t, step (polling [0x80, 0, 0]) = .next t) ∧ (polling [0x80, 0, 0]).host.head? ≠ some .reset :=
  ⟨⟨_, rfl⟩, rfl, ⟨_, rfl⟩, by decide⟩

theorem witness_BusyDeviceEndsInTimeout :
    (session .inCommandMode .idle [0x80, 0, 0, 0xFC, 0, 0, 0x00, 0, 0]).seq = .idle ∧
    (session .inCommandMode .idle [0x80, 0, 0, 0xFC, 0, 0, 0x00, 0, 0]).mode = .inCommandMode ∧
    1 ≤ (session .inCommandMode .idle [0x80, 0, 0, 0xFC, 0, 0, 0x00, 0, 0]).pollLimit ∧
    ∀ k, k < (session .inCommandMode .idle [0x80, 0, 0, 0xFC, 0, 0, 0x00, 0, 0]).pollLimit →
      (answer (session .inCommandMode .idle [0x80, 0, 0, 0xFC, 0, 0, 0x00, 0, 0]) (3 * k)).extractLsb' 0 2 = 0#2 := by
  refine ⟨by decide, by decide, by decide, ?_⟩
  have h : ∀ k, k < 3 →
      (answer (session .inCommandMode .idle [0x80, 0, 0, 0xFC, 0, 0, 0x00, 0, 0]) (3 * k)).extractLsb' 0 2 = 0#2 := by decide
  exact h

theorem witness_ChgaddrWholeOperation :
    (session .inCommandMode .idle [0x81, 0x12, 0x27, 0x81]).seq = .idle ∧
    (session .inCommandMode .idle [0x81, 0x12, 0x27, 0x81]).mode = .inCommandMode ∧ (0x7F#8).toNat ≤ 0x7F ∧
    (session .inCommandMode .idle [0x81, 0x12, 0x27, 0x81]).answers = 0x81 :: 0x12 :: 0x27 :: 0x81 :: [] ∧
    (0x81#8).getLsbD 0 = true := by decide

theorem witness_DerivedOperationsExpand :
    (session .inCommandMode .idle []).seq = .idle ∧ (∃ t, operate .rdcfg 0 (session .inCommandMode .idle []) = .next t) ∧
    (∃ t, operate .rdcfg 2 (session .inCommandMode .idle []) = .next t) ∧
    ∃ t, operate (.wraloff (some 0)) 1 (session .normal .idle []) = .next t := ⟨rfl, ⟨_, rfl⟩, ⟨_, rfl⟩, _, rfl⟩

end Sys2Proof.Tests
end

section
/-! SUPPORT. The session and bus rules the whole lifecycle operations rest on: how `operate` unrolls, what each micro-step of
a lifecycle operation does, and the state in which `ENTER` waits for its status byte. -/

namespace Sys2Proof.Machine

/-! ### Running an operation -/

/-- The address byte the transport sees is the 7-bit address under a zero bit (20_memory.md R40). -/
theorem busAddr_eq_append (a : Addr) : busAddr a = 0#1 ++ a :=
  (BitVec.setWidth_eq_append (by omega)).trans rfl

/-- A single step of a run is the micro-step, whether or not the operation ends in it. -/
theorem operate_one (i : Instr) (s : State) : operate i 1 s = exec i s := by
  cases h : exec i s <;> simp [operate, h]

/-- A run stops at the response. -/
theorem operate_succ_of_idle {i : Instr} {s t : State} (n : Nat) (h : exec i s = .next t) (hq : t.seq = .idle) :
    operate i (n + 1) s = .next t := by
  simp [operate, h, hq]

/-- A run goes on while the operation is in progress. -/
theorem operate_succ_of_busy {i : Instr} {s t : State} (n : Nat) (h : exec i s = .next t) (hq : t.seq ≠ .idle) :
    operate i (n + 1) s = operate i n t := by
  simp [operate, h, hq]

/-! ### The micro-steps of the lifecycle operations -/

theorem exec_idle (i : Instr) (s : State) (hq : s.seq = .idle) :
    exec i s = (routine i).accept { s with opr := .instr i } :=
  (exec_eq_microStep i s).trans (microStep_idle i _ s hq)

theorem exec_startTx (i : Instr) (s : State) (hq : s.seq = .startTx) :
    exec i s = .next { sendFrame Config.CMD_START 0x00 0x00 s with seq := .startRx } :=
  (exec_eq_microStep i s).trans (microStep_startTx i _ s hq)

theorem exec_startRx (i : Instr) (s : State) (hq : s.seq = .startRx) : exec i s = stepStartRx s :=
  (exec_eq_microStep i s).trans (microStep_startRx i _ s hq)

theorem exec_exitTx (i : Instr) (s : State) (hq : s.seq = .exitTx) :
    exec i s = .next (finish (.ok .noValue)
      ((routine i).onExit { sendFrame Config.CMD_EXIT 0x00 0x00 s with mode := .normal })) :=
  (exec_eq_microStep i s).trans (microStep_exitTx i _ s hq)

theorem exec_needAddress_unset {i : Instr} {k : State → Answer} {s : State} (hi : (routine i).accept = needAddress k)
    (hq : s.seq = .idle) (ha : s.addrSet = false) :
    exec i s = .next (finish (.fail .noAddress) { s with opr := .instr i }) := by
  simp [exec_idle i s hq, hi, needAddress_unset, ha]

theorem exec_needAddress_set {i : Instr} {q : Seq} {s : State}
    (hi : (routine i).accept = needAddress fun t => .next (enterBusy q t)) (hq : s.seq = .idle) (ha : s.addrSet = true) :
    exec i s = .next (enterBusy q { s with opr := .instr i }) := by
  simp [exec_idle i s hq, hi, needAddress_set, ha]

theorem exec_teardown_normal (s : State) (hq : s.seq = .idle) (hm : s.mode = .normal) :
    exec .teardown s = .next (finish (.ok .noValue) (endSession { s with opr := .instr .teardown })) := by
  simp [exec_idle .teardown s hq, routine, hm, respond_eq]

theorem exec_teardown_inCommandMode (s : State) (hq : s.seq = .idle) (hm : s.mode = .inCommandMode) :
    exec .teardown s = .next (enterBusy .exitTx { s with opr := .instr .teardown }) := by
  simp [exec_idle .teardown s hq, routine, hm]

/-! ### Runs past acceptance: the START frame of `ENTER`, the EXIT frame of `EXIT` and `TEARDOWN` -/

/-- The state in which `ENTER`, accepted in `s`, has sent its START frame and waits for the status byte. -/
def startSent (s : State) : State :=
  { sendFrame Config.CMD_START 0x00 0x00 (enterBusy .startTx { s with opr := .instr .enter }) with seq := .startRx }

@[simp] theorem startSent_addr (s : State) : (startSent s).addr = s.addr := rfl
@[simp] theorem startSent_addrSet (s : State) : (startSent s).addrSet = s.addrSet := rfl
@[simp] theorem startSent_mode (s : State) : (startSent s).mode = s.mode := rfl
@[simp] theorem startSent_seq (s : State) : (startSent s).seq = .startRx := rfl
@[simp] theorem startSent_trace (s : State) :
    (startSent s).trace = s.trace ++ [.write (busAddr s.addr) 0xA0 0x00 0x00] := rfl
@[simp] theorem startSent_replies (s : State) : (startSent s).replies = s.replies := rfl
@[simp] theorem answer_startSent (s : State) (k : Nat) : answer (startSent s) k = answer s k := rfl

theorem exec_enter_set (s : State) (hq : s.seq = .idle) (ha : s.addrSet = true) :
    exec .enter s = .next (enterBusy .startTx { s with opr := .instr .enter }) :=
  exec_needAddress_set rfl hq ha

/-- With an address, `ENTER` comes down to its status byte, read after the START frame. -/
theorem operate_enter_set (s : State) (hq : s.seq = .idle) (ha : s.addrSet = true) :
    operate .enter 3 s = stepStartRx (startSent s) :=
  calc operate .enter 3 s
      = operate .enter 2 (enterBusy .startTx { s with opr := .instr .enter }) :=
        operate_succ_of_busy 2 (exec_enter_set s hq ha) (by simp)
    _ = operate .enter 1 (startSent s) := operate_succ_of_busy 1 (exec_startTx .enter _ rfl) (by simp)
    _ = stepStartRx (startSent s) := (operate_one _ _).trans (exec_startRx .enter _ rfl)

/-- An operation accepted for the EXIT frame ends in the step that sends it. -/
theorem operate_of_exec_exitTx {i : Instr} {s u : State} (h : exec i s = .next u) (hu : u.seq = .exitTx) :
    operate i 2 s = .next (finish (.ok .noValue)
      ((routine i).onExit { sendFrame Config.CMD_EXIT 0x00 0x00 u with mode := .normal })) :=
  calc operate i 2 s
      = operate i 1 u := operate_succ_of_busy 1 h (by simp [hu])
    _ = _ := (operate_one i u).trans (exec_exitTx i u hu)

@[simp] theorem routine_exit_onExit (s : State) : (routine .exit).onExit s = s := rfl
@[simp] theorem routine_teardown_onExit (s : State) : (routine .teardown).onExit s = endSession s := rfl

end Sys2Proof.Machine
end

section
/-! PROOFS. The whole lifecycle operations (40_lifecycle.md R91, R92, R93). -/

namespace Sys2Proof.Proofs

open Sys2Proof Sys2Proof.Machine

/-- Settles O27: acceptance decides on the address, then `START_RX` decides on bit 7 of the status byte. -/
theorem enterWholeOperation : Obligations.EnterWholeOperation := by
  unfold Obligations.EnterWholeOperation
  refine ⟨rfl, fun s hq => ?_⟩
  rcases Bool.eq_false_or_eq_true s.addrSet with ha | ha
  · have haccept := exec_enter_set s hq ha
    have hrun := operate_enter_set s hq ha
    rcases stepStartRx_cases (startSent s) with ⟨hcm, hstep⟩ | ⟨hcm, hstep⟩
    · have hbit : (answer s 0)[7] = true := hcm
      exact ⟨_, hrun.trans hstep, by simp [haccept, ha, hbit, busAddr_eq_append]⟩
    · have hbit : (answer s 0)[7] = false := hcm
      exact ⟨_, hrun.trans hstep, by simp [haccept, ha, hbit, busAddr_eq_append]⟩
  · exact ⟨_, operate_succ_of_idle 2 (exec_needAddress_unset rfl hq ha) rfl, by simp [ha]⟩

/-- Settles O28: with an address the one step after acceptance sends the frame, reads nothing and ends in Normal. -/
theorem exitWholeOperation : Obligations.ExitWholeOperation := by
  unfold Obligations.ExitWholeOperation
  refine ⟨rfl, fun s hq => ?_⟩
  rcases Bool.eq_false_or_eq_true s.addrSet with ha | ha
  · have haccept : exec .exit s = .next (enterBusy .exitTx { s with opr := .instr .exit }) :=
      exec_needAddress_set rfl hq ha
    exact ⟨_, operate_of_exec_exitTx haccept rfl, by simp [haccept, ha, busAddr_eq_append, Config.CMD_EXIT]⟩
  · exact ⟨_, operate_succ_of_idle 1 (exec_needAddress_unset rfl hq ha) rfl, by simp [ha]⟩

/-- Settles O29: in Normal the session ends in the accepting step, in command mode in the step that sends the frame. -/
theorem teardownWholeOperation : Obligations.TeardownWholeOperation := by
  unfold Obligations.TeardownWholeOperation
  refine ⟨rfl, fun s hq => ?_⟩
  rcases mode_cases s.mode with hm | hm
  · exact ⟨_, operate_succ_of_idle 1 (exec_teardown_normal s hq hm) rfl, by simp [hm]⟩
  · have haccept := exec_teardown_inCommandMode s hq hm
    exact ⟨_, operate_of_exec_exitTx haccept rfl, by simp [haccept, hm, busAddr_eq_append, Config.CMD_EXIT]⟩

end Sys2Proof.Proofs
end

section
/-! SUPPORT. The status decoder and the combine gate (41_register_transactions.md R100, R105), one equation per output. -/

namespace Sys2Proof.Machine

/-! ### The status decoder, by the value of the byte -/

theorem statusDecode_cm (s : Byte) : (statusDecode s).cm = decide (128 ≤ s.toNat) :=
  (BitVec.msb_eq_getLsbD_last s).symm.trans (BitVec.msb_eq_decide s)

theorem statusDecode_resp_toNat (s : Byte) : (statusDecode s).resp.toNat = s.toNat % 4 :=
  BitVec.extractLsb'_toNat 0 2 s

/-- Completion is read off the response code alone. -/
theorem statusDecode_done_eq_resp (s : Byte) : (statusDecode s).done = ((statusDecode s).resp != 0#2) := rfl

theorem statusDecode_done (s : Byte) : (statusDecode s).done = decide (s.toNat % 4 ≠ 0) := by
  rw [statusDecode_done_eq_resp, Bool.eq_iff_iff, bne_iff_ne, decide_eq_true_iff, BitVec.toNat_ne,
    statusDecode_resp_toNat, BitVec.toNat_ofNat, Nat.zero_mod]

theorem statusDecode_ack (s : Byte) : (statusDecode s).ack = decide (s.toNat % 2 = 1) :=
  Nat.testBit_zero s.toNat

/-! ### The combine gate -/

@[simp] theorem combine_or (old new : Word) : combine .or old new = old ||| new := rfl
@[simp] theorem combine_and (old new : Word) : combine .and old new = old &&& new := rfl

end Sys2Proof.Machine
end

section
/-! PROOFS. The status decoder and the combine gate (41_register_transactions.md R100, R105). -/

namespace Sys2Proof.Proofs

open Sys2Proof Sys2Proof.Machine

/-- Settles O36, output by output: bit 7 is the upper half of the range, bit 0 the parity, the code the remainder modulo 4. -/
theorem statusDecoderTable : Obligations.StatusDecoderTable := by
  unfold Obligations.StatusDecoderTable
  exact fun s => ⟨statusDecode_cm s, statusDecode_resp_toNat s, statusDecode_done s, statusDecode_ack s⟩

/-- Settles O37: the gate is the word operation of its mode, and those act on each bit alone. -/
theorem combineIsBitwise : Obligations.CombineIsBitwise := by
  unfold Obligations.CombineIsBitwise
  intro old new k
  constructor
  · rw [combine_or, BitVec.getLsbD_or]
  · rw [combine_and, BitVec.getLsbD_and]

end Sys2Proof.Proofs
end

section
/-! SUPPORT. The customer-config word under the masks of a config change (45_conversion_and_decode.md R160,
44_config_change.md R136, R137), and the step of a config change whose read is acknowledged (46_sequencer_steps.md R179). -/

namespace Sys2Proof.Machine

/-! ### The address field of a customer-config word -/

/-- Bit 6 of the word is the top bit of the address field (90_conflicts.md C2). -/
theorem cfgDecode_fAlpol_eq_fAddr (w : Word) : (cfgDecode w).fAlpol = (cfgDecode w).fAddr.getLsbD 6 := by
  simp [cfgDecode]

theorem cfgDecode_fAddr_combine_or (v b : Word) :
    (cfgDecode (combine .or v b)).fAddr = (cfgDecode v).fAddr ||| (cfgDecode b).fAddr :=
  BitVec.extractLsb'_or

theorem cfgDecode_fAddr_combine_and (v m : Word) :
    (cfgDecode (combine .and v m)).fAddr = (cfgDecode v).fAddr &&& (cfgDecode m).fAddr :=
  BitVec.extractLsb'_and

theorem cfgDecode_fAddr_addrField (a : Byte) : (cfgDecode (addrField a)).fAddr = low7 a := by
  rw [cfgDecode, addrField, ← BitVec.setWidth_eq_extractLsb' (by omega), BitVec.setWidth_setWidth_of_le _ (by omega),
    BitVec.setWidth_eq]

/-- `CHGADDR` clears the whole address field before it writes the new address there. -/
theorem cfgDecode_fAddr_changedAddress (v : Word) (a : Byte) : (cfgDecode (changedAddress v a)).fAddr = low7 a := by
  have hmask : (cfgDecode Config.M_ADDR_CLR).fAddr = 0 := by decide
  calc (cfgDecode (changedAddress v a)).fAddr
      = ((cfgDecode v).fAddr &&& (cfgDecode Config.M_ADDR_CLR).fAddr) ||| (cfgDecode (addrField a)).fAddr := by
        rw [changedAddress, cfgDecode_fAddr_combine_or, cfgDecode_fAddr_combine_and]
    _ = low7 a := by rw [hmask, cfgDecode_fAddr_addrField]; simp

theorem cfgDecode_fAlpol_changedAddress (v : Word) (a : Byte) :
    (cfgDecode (changedAddress v a)).fAlpol = a.getLsbD 6 := by
  rw [cfgDecode_fAlpol_eq_fAddr, cfgDecode_fAddr_changedAddress, low7, BitVec.getLsbD_extractLsb']
  simp

/-! ### The acknowledged read -/

/-- An acknowledged response is a completed one: bit 0 is in the response code (41_register_transactions.md R100). -/
theorem statusDecode_done_of_ack (b : Byte) (h : (statusDecode b).ack = true) : (statusDecode b).done = true := by
  rw [statusDecode_ack, decide_eq_true_iff] at h
  rw [statusDecode_done, decide_eq_true_iff]
  omega

/-- An operation whose read is acknowledged goes on with the word read. -/
theorem exec_rdPoll_acknowledged (i : Instr) (s : State) (hq : s.seq = .rdPoll)
    (hack : (statusDecode (answer s 0)).ack = true) :
    exec i s = (routine i).onRead (readWord s) { pollRead3 s with rxw := readWord s } := by
  rw [exec_eq_microStep, microStep_rdPoll i _ s hq, stepRdPoll, if_pos (statusDecode_done_of_ack _ hack), if_pos hack]

/-- The state in which a config change has read its word in `s` and is about to write `w`. -/
def changeRead (w : Word) (s : State) : State :=
  { pollRead3 s with rxw := readWord s, txw := w, cmd := Config.CMD_WR_CFG, seq := .wrTx }

@[simp] theorem changeRead_txw (w : Word) (s : State) : (changeRead w s).txw = w := rfl
@[simp] theorem changeRead_rxw (w : Word) (s : State) : (changeRead w s).rxw = readWord s := rfl

/-- Every config change, by the function `f` of the word read that it writes back. -/
theorem exec_change_acknowledged {i : Instr} {f : Word → Word} {s : State}
    (hi : ∀ v, (routine i).onRead v = continueWrite (f v)) (hq : s.seq = .rdPoll)
    (hack : (statusDecode (answer s 0)).ack = true) :
    exec i s = .next (changeRead (f (readWord s)) s) := by
  rw [exec_rdPoll_acknowledged i s hq hack, hi]
  rfl

end Sys2Proof.Machine
end

section
/-! PROOFS. The config changes (44_config_change.md). -/

namespace Sys2Proof.Proofs

open Sys2Proof Sys2Proof.Machine

/-- Settles O43: bit 6 lies in the address field, and the gates and masks act on that field alone: `CHGADDR` replaces it,
`ALPOL.SET` and `ALPOL.CLR` combine it with the low seven bits of their literals. -/
theorem polarityBitAliasesTheAddress : Obligations.PolarityBitAliasesTheAddress := by
  unfold Obligations.PolarityBitAliasesTheAddress
  refine ⟨fun w => ⟨cfgDecode_fAlpol_eq_fAddr w, rfl, rfl, rfl, rfl⟩, fun s hq hack => ⟨fun a => ?_, ?_, ?_⟩⟩
  · exact ⟨_, exec_change_acknowledged (f := (changedAddress · a)) (fun _ => rfl) hq hack,
      cfgDecode_fAlpol_changedAddress (readWord s) a⟩
  · have hset : (cfgDecode Config.B_ALPOL).fAddr = 0x40 := by decide
    refine ⟨_, exec_change_acknowledged (f := (combine .or · Config.B_ALPOL)) (fun _ => rfl) hq hack, ?_⟩
    rw [changeRead_txw, changeRead_rxw, cfgDecode_fAddr_combine_or, hset]
  · have hclear : (cfgDecode Config.M_ALPOL_CLR).fAddr = 0x3F := by decide
    refine ⟨_, exec_change_acknowledged (f := (combine .and · Config.M_ALPOL_CLR)) (fun _ => rfl) hq hack, ?_⟩
    rw [changeRead_txw, changeRead_rxw, cfgDecode_fAddr_combine_and, hclear]

end Sys2Proof.Proofs
end

section
/-! SUPPORT. The two conversions as arithmetic on the scaled humidity (45_conversion_and_decode.md R155, R157, R159), and the
customer-config decoder on the words the encoder makes (R160). -/

namespace Sys2Proof.Machine

/-! ### Count and humidity -/

/-- The clamp is the nearest count. -/
theorem clampCount_toNat (z : Int) : ((clampCount z).toNat : Int) = max 0 (min 65535 z) := by
  rw [clampCount]
  split
  case isTrue hneg => simp only [BitVec.ofNat_eq_ofNat, BitVec.toNat_ofNat]; omega
  case isFalse hnonneg =>
    split
    case isTrue hbig => simp only [BitVec.ofNat_eq_ofNat, BitVec.toNat_ofNat]; omega
    case isFalse hsmall => rw [BitVec.toNat_ofInt]; omega

theorem bitsToHumidity_eq (raw : Word) : bitsToHumidity raw = (raw.toNat : Rat) * 100 / 16382 := by
  norm_num [bitsToHumidity, Config.HUM_FULL, Config.HUM_SCALE]

theorem humidityToBits_eq (q : Rat) : humidityToBits q = clampCount ⌊q * 16382 / 100⌋ := by
  norm_num [humidityToBits, Config.HUM_FULL, Config.HUM_SCALE]

theorem humidityToBits_toNat (q : Rat) : ((humidityToBits q).toNat : Int) = max 0 (min 65535 ⌊q * 16382 / 100⌋) := by
  rw [humidityToBits_eq, clampCount_toNat]

/-- The clamp keeps every count. -/
theorem clampCount_natCast_toNat (c : Word) : clampCount (c.toNat : Int) = c := by
  have hcount := clampCount_toNat (c.toNat : Int)
  exact BitVec.eq_of_toNat_eq (by omega)

theorem humidityToBits_eq_of_floor {q : Rat} {c : Word} (z : Int) (hfloor : ⌊q * 16382 / 100⌋ = z)
    (hclamp : clampCount z = c) : humidityToBits q = c := by
  rw [humidityToBits_eq, hfloor, hclamp]

/-- On 0 to 100 the clamp does not act. -/
theorem humidityToBits_toNat_of_mem {h : Rat} (h0 : 0 ≤ h) (h100 : h ≤ 100) :
    ((humidityToBits h).toNat : Int) = ⌊h * (16382 / 100)⌋ := by
  have hlo : 0 ≤ ⌊h * 16382 / 100⌋ := Int.floor_nonneg.mpr (by positivity)
  have hhi : ⌊h * 16382 / 100⌋ ≤ 16382 := Int.floor_le_iff.mpr (by norm_num; linarith)
  rw [humidityToBits_toNat, ← mul_div_assoc]
  omega

/-- What the round trip loses is the part of the scaled humidity that the floor cuts off. -/
theorem sub_bitsToHumidity_humidityToBits {h : Rat} (h0 : 0 ≤ h) (h100 : h ≤ 100) :
    h - bitsToHumidity (humidityToBits h) = Int.fract (h * (16382 / 100)) * (100 / 16382) := by
  have hcount : ((humidityToBits h).toNat : Rat) = (⌊h * (16382 / 100)⌋ : Rat) :=
    mod_cast humidityToBits_toNat_of_mem h0 h100
  rw [bitsToHumidity_eq, hcount, Int.fract]
  ring

theorem humidityToBits_bitsToHumidity (c : Word) : humidityToBits (bitsToHumidity c) = c := by
  have hscaled : bitsToHumidity c * 16382 / 100 = (c.toNat : Rat) := by rw [bitsToHumidity_eq]; ring
  exact humidityToBits_eq_of_floor c.toNat (by rw [hscaled, Int.floor_natCast]) (clampCount_natCast_toNat c)

/-! ### The customer-config decoder -/

theorem cfgDecode_fAddr_toNat (w : Word) : (cfgDecode w).fAddr.toNat = w.toNat % 128 :=
  BitVec.extractLsb'_toNat 0 7 w

/-- A set constant sets the bits it names. -/
theorem getLsbD_or_of_set (cfg : Word) {b : Word} {k : Nat} (hb : b.getLsbD k = true) :
    (cfg ||| b).getLsbD k = true := by
  rw [BitVec.getLsbD_or, hb, Bool.or_true]

/-- A clear mask clears the bits it leaves out. -/
theorem getLsbD_and_of_clear (cfg : Word) {m : Word} {k : Nat} (hm : m.getLsbD k = false) :
    (cfg &&& m).getLsbD k = false := by
  rw [BitVec.getLsbD_and, hm, Bool.and_false]

theorem low7_toNat (a : Byte) : (low7 a).toNat = a.toNat % 128 :=
  BitVec.extractLsb'_toNat 0 7 a

/-- A valid address enters the word as its whole byte (44_config_change.md R136). -/
theorem append_eq_addrField {a : Byte} (ha : a.toNat ≤ 0x7F) : 0#8 ++ a = addrField a := by
  have hzext : a.setWidth 16 = 0#8 ++ a := (BitVec.setWidth_eq_append (by omega)).trans rfl
  apply BitVec.eq_of_toNat_eq
  rw [← hzext, addrField, BitVec.toNat_setWidth, BitVec.toNat_setWidth, low7_toNat]
  omega

end Sys2Proof.Machine
end

section
/-! PROOFS. The conversions and the customer-config decoder (45_conversion_and_decode.md). -/

namespace Sys2Proof.Proofs

open Sys2Proof Sys2Proof.Machine

/-- Settles O45: each listed value by the integer its scaled humidity floors to, before the clamp. -/
theorem humidityToBitsFloorsOnceAndClamps : Obligations.HumidityToBitsFloorsOnceAndClamps := by
  unfold Obligations.HumidityToBitsFloorsOnceAndClamps
  exact ⟨humidityToBits_toNat,
    humidityToBits_eq_of_floor 0 (by norm_num) (by decide),
    humidityToBits_eq_of_floor 8191 (by norm_num) (by decide),
    humidityToBits_eq_of_floor 16382 (by norm_num) (by decide),
    humidityToBits_eq_of_floor 13105 (by norm_num) (by decide),
    humidityToBits_eq_of_floor 8272 (by norm_num) (by decide),
    humidityToBits_eq_of_floor 16381 (by norm_num) (by decide),
    humidityToBits_eq_of_floor 0 (by norm_num) (by decide),
    humidityToBits_eq_of_floor 1 (by norm_num) (by decide),
    humidityToBits_eq_of_floor 5455 (by norm_num) (by decide),
    humidityToBits_eq_of_floor 65528 (by norm_num) (by decide),
    humidityToBits_eq_of_floor 65536 (by norm_num) (by decide),
    humidityToBits_eq_of_floor 163820 (by norm_num) (by decide),
    humidityToBits_eq_of_floor (-164) (by norm_num) (by decide)⟩

/-- Settles O47: the loss is a fractional part times one count, so it lies in `[0, 100/16382)` and is 0 at the integers. -/
theorem humidityRoundTrip : Obligations.HumidityRoundTrip := by
  unfold Obligations.HumidityRoundTrip
  refine ⟨fun h h0 h100 => ?_, humidityToBits_bitsToHumidity⟩
  have hloss := sub_bitsToHumidity_humidityToBits h0 h100
  have hlt := Int.fract_lt_one (h * (16382 / 100))
  refine ⟨by rw [hloss]; positivity, by rw [hloss]; linarith, ?_⟩
  calc bitsToHumidity (humidityToBits h) = h
      ↔ h - bitsToHumidity (humidityToBits h) = 0 := by rw [sub_eq_zero, eq_comm]
    _ ↔ Int.fract (h * (16382 / 100)) = 0 := by rw [hloss]; norm_num
    _ ↔ ∃ z : Int, h * (16382 / 100) = z := by
      rw [Int.fract_eq_zero_iff]
      exact exists_congr fun z => eq_comm

/-- Settles O48: a set constant and a clear mask act on the bit they name, and the address word is the one `CHGADDR` writes. -/
theorem configDecoderOutputs : Obligations.ConfigDecoderOutputs := by
  unfold Obligations.ConfigDecoderOutputs
  refine ⟨fun w => ⟨cfgDecode_fAddr_toNat w, rfl, rfl, rfl, rfl, rfl⟩, fun cfg => ?_, by decide, by decide, fun _ => rfl⟩
  refine ⟨getLsbD_or_of_set cfg (by decide), getLsbD_and_of_clear cfg (by decide),
    getLsbD_or_of_set cfg (by decide), getLsbD_and_of_clear cfg (by decide),
    getLsbD_or_of_set cfg (by decide), getLsbD_and_of_clear cfg (by decide),
    getLsbD_or_of_set cfg (by decide), getLsbD_and_of_clear cfg (by decide),
    getLsbD_or_of_set cfg (by decide), getLsbD_and_of_clear cfg (by decide), fun a ha => ?_⟩
  have hword : (cfg &&& 0xFF80#16) ||| (0#8 ++ a) = changedAddress cfg a := by
    rw [append_eq_addrField ha]
    rfl
  rw [hword, cfgDecode_fAddr_changedAddress, low7_toNat]
  omega

end Sys2Proof.Proofs
end

section
/-! SUPPORT. The two micro-steps that send a transaction's frame (46_sequencer_steps.md R175, R177), and the split of a word
into the two data bytes of a frame (00_scope.md R9). -/

namespace Sys2Proof.Machine

/-- A word is its high byte followed by its low byte. -/
theorem hi8_append_lo8 (w : Word) : hi8 w ++ lo8 w = w := by
  rw [hi8, lo8, BitVec.extractLsb'_append_extractLsb'_eq_extractLsb' (by omega)]
  exact BitVec.extractLsb'_eq_self

/-- Sending a frame, with the address byte written as the seven bits under a zero bit (20_memory.md R40). -/
theorem sendFrame_eq (b0 b1 b2 : Byte) (s : State) :
    sendFrame b0 b1 b2 s = { s with trace := s.trace ++ [.write (0#1 ++ s.addr) b0 b1 b2], pcnt := 0 } := by
  rw [sendFrame, busAddr_eq_append]

theorem exec_rdTx (i : Instr) (s : State) (hq : s.seq = .rdTx) :
    exec i s = .next { sendFrame s.cmd 0x00 0x00 s with seq := .rdPoll } :=
  (exec_eq_microStep i s).trans (microStep_rdTx i _ s hq)

theorem exec_wrTx (i : Instr) (s : State) (hq : s.seq = .wrTx) :
    exec i s = .next { sendFrame s.cmd (hi8 s.txw) (lo8 s.txw) s with seq := .wrPoll } :=
  (exec_eq_microStep i s).trans (microStep_wrTx i _ s hq)

end Sys2Proof.Machine
end

section
/-! PROOFS. The frame that begins a read or a write transaction (46_sequencer_steps.md R175, R177). -/

namespace Sys2Proof.Proofs

open Sys2Proof Sys2Proof.Machine

/-- Settles O38: every operation sends its frame by the one shared step, and the two data bytes of a write are `TXW` cut in
half. -/
theorem transactionFrames : Obligations.TransactionFrames := by
  unfold Obligations.TransactionFrames
  refine fun i s => ⟨fun hread => ?_, fun hwrite => ⟨hi8 s.txw, lo8 s.txw, hi8_append_lo8 s.txw, ?_⟩⟩
  · rw [exec_rdTx i s hread, sendFrame_eq]
  · rw [exec_wrTx i s hwrite, sendFrame_eq]

end Sys2Proof.Proofs
end

section
/-! SUPPORT. The decoder against the encoder (30_encoding.md R60, R61, R63, R80): what a request that decodes to an operation
looks like, said once; both directions of the encoding statements are read off it. -/

namespace Sys2Proof

/-! ### The fields of a request that an operation reads -/

/-- A request carries an operation: its `OP` is the operation's, and the fields that the operation's format reads hold its
operands (30_encoding.md R61, R63). -/
def Request.Carries (r : Request) (i : Instr) : Prop :=
  r.op = (encode i).op ∧ (i.format.readsA8 = true → r.a8 = (encode i).a8) ∧
  (i.format.readsW0 = true → r.w0 = (encode i).w0) ∧ (i.format.readsW1 = true → r.w1 = (encode i).w1) ∧
  (i.format.readsHreq = true → r.hreq = (encode i).hreq)

theorem Request.carries_encode (i : Instr) : (encode i).Carries i :=
  ⟨rfl, fun _ => rfl, fun _ => rfl, fun _ => rfl, fun _ => rfl⟩

theorem decode_of_carries {r : Request} {i : Instr} (h : r.Carries i) : decode r = .instr i := by
  obtain ⟨hop, ha8, hw0, hw1, hhreq⟩ := h
  cases i with
  | setaddr a | rdreg a | chgaddr a =>
    simp only [encode, Request.ofA, Request.pack_op, Request.pack_a8] at hop ha8
    simp [decode, hop, ha8 rfl]
  | wrregOr cmd old new | wrregAnd cmd old new =>
    simp only [encode, Request.ofW, Request.pack_op, Request.pack_a8, Request.pack_w0, Request.pack_w1] at hop ha8 hw0 hw1
    simp [decode, hop, ha8 rfl, hw0 rfl, hw1 rfl]
  | b2h raw =>
    simp only [encode, Request.ofC, Request.pack_op, Request.pack_w0] at hop hw0
    simp [decode, hop, hw0 rfl]
  | wrahon h | wrahoff h | wralon h | wraloff h | h2b h =>
    simp only [encode, Request.ofH, Request.pack_op, Request.pack_hreq] at hop hhreq
    simp [decode, hop, hhreq rfl]
  | _ =>
    simp only [encode, Request.ofN, Request.pack_op] at hop
    simp [decode, hop]

/-- The 30 rows of the opcode map: 29 that carry their operation, and the rest. -/
theorem carries_of_decode {r : Request} {i : Instr} (h : decode r = .instr i) : r.Carries i := by
  have hop {n : Nat} (hn : r.op.toNat = n) : r.op = BitVec.ofNat 8 n := by rw [← hn, BitVec.ofNat_toNat, BitVec.setWidth_eq]
  unfold decode at h
  split at h
  case h_30 => cases h
  all_goals
    next hn =>
      cases h
      simp [Request.Carries, hop hn, encode, Request.ofN, Request.ofA, Request.ofW, Request.ofC, Request.ofH,
        Request.pack_op, Request.pack_a8, Request.pack_w0, Request.pack_w1, Request.pack_hreq, Instr.format,
        Format.readsA8, Format.readsW0, Format.readsW1, Format.readsHreq]

/-! ### Which values of `OP` are assigned -/

theorem encode_op_mem (i : Instr) : (encode i).op.toNat ∈ assignedOps := by
  cases i <;> simp [encode, Request.ofN, Request.ofA, Request.ofW, Request.ofC, Request.ofH, Request.pack_op, assignedOps]

/-- An undecoded request has none of the listed values, and keeps its `OP`. -/
theorem not_mem_of_decode_illegal {r : Request} {op : Byte} (h : decode r = .illegalOp op) :
    r.op.toNat ∉ assignedOps ∧ op = r.op := by
  unfold decode at h
  split at h
  case h_30 =>
    cases h
    simp_all [assignedOps]
  all_goals cases h

theorem exists_decode_iff (r : Request) : (∃ i, decode r = .instr i) ↔ r.op.toNat ∈ assignedOps := by
  constructor
  · rintro ⟨i, hi⟩
    rw [(carries_of_decode hi).1]
    exact encode_op_mem i
  · intro hmem
    cases hd : decode r with
    | instr i => exact ⟨i, rfl⟩
    | illegalOp op => exact absurd hmem (not_mem_of_decode_illegal hd).1

theorem decode_of_not_mem {r : Request} (h : r.op.toNat ∉ assignedOps) : decode r = .illegalOp r.op := by
  cases hd : decode r with
  | instr i => exact absurd ((exists_decode_iff r).mp ⟨i, hd⟩) h
  | illegalOp op => rw [(not_mem_of_decode_illegal hd).2]

/-! ### The fields of a request that an operation does not read -/

/-- Every field the format does not read is zero, the lane at `unusedHum`. -/
def Request.UnreadZero (r : Request) (f : Format) : Prop :=
  (f.readsA8 = false → r.a8 = 0) ∧ (f.readsW0 = false → r.w0 = 0) ∧ (f.readsW1 = false → r.w1 = 0) ∧
  (f.readsHreq = false → r.hreq = unusedHum)

theorem Request.unreadZero_of_wellFormed {r : Request} {i : Instr} (hw : r.wellFormed = true) (hd : decode r = .instr i) :
    r.UnreadZero i.format := by
  simp only [Request.wellFormed, hd, Request.a8Ok, Request.w0Ok, Request.w1Ok, Request.hreqOk, Bool.and_eq_true,
    Bool.or_eq_true, beq_iff_eq] at hw
  obtain ⟨⟨⟨ha8, hw0⟩, hw1⟩, hhreq⟩ := hw
  exact ⟨fun h => ha8.resolve_left (by simp [h]), fun h => hw0.resolve_left (by simp [h]),
    fun h => hw1.resolve_left (by simp [h]), fun h => hhreq.resolve_left (by simp [h])⟩

theorem encode_wellFormed (i : Instr) : (encode i).wellFormed = true := by
  cases i with
  | setaddr a => exact Laws.EncodeWellFormed.setaddr a
  | enter => exact Laws.EncodeWellFormed.enter
  | exit => exact Laws.EncodeWellFormed.exit
  | teardown => exact Laws.EncodeWellFormed.teardown
  | rdreg cmd => exact Laws.EncodeWellFormed.rdreg cmd
  | wrregOr cmd old new => exact Laws.EncodeWellFormed.wrregOr cmd old new
  | wrregAnd cmd old mask => exact Laws.EncodeWellFormed.wrregAnd cmd old mask
  | rdahon => exact Laws.EncodeWellFormed.rdahon
  | rdahoff => exact Laws.EncodeWellFormed.rdahoff
  | rdalon => exact Laws.EncodeWellFormed.rdalon
  | rdaloff => exact Laws.EncodeWellFormed.rdaloff
  | rdcfg => exact Laws.EncodeWellFormed.rdcfg
  | wrahon h => exact Laws.EncodeWellFormed.wrahon h
  | wrahoff h => exact Laws.EncodeWellFormed.wrahoff h
  | wralon h => exact Laws.EncodeWellFormed.wralon h
  | wraloff h => exact Laws.EncodeWellFormed.wraloff h
  | chgaddr a => exact Laws.EncodeWellFormed.chgaddr a
  | alpolSet => exact Laws.EncodeWellFormed.alpolSet
  | alpolClr => exact Laws.EncodeWellFormed.alpolClr
  | aloutSet => exact Laws.EncodeWellFormed.aloutSet
  | aloutClr => exact Laws.EncodeWellFormed.aloutClr
  | ahpolSet => exact Laws.EncodeWellFormed.ahpolSet
  | ahpolClr => exact Laws.EncodeWellFormed.ahpolClr
  | ahoutSet => exact Laws.EncodeWellFormed.ahoutSet
  | ahoutClr => exact Laws.EncodeWellFormed.ahoutClr
  | su3msSet => exact Laws.EncodeWellFormed.su3msSet
  | su3msClr => exact Laws.EncodeWellFormed.su3msClr
  | b2h raw => exact Laws.EncodeWellFormed.b2h raw
  | h2b h => exact Laws.EncodeWellFormed.h2b h

/-- Two requests that carry the same operation and are zero elsewhere agree in every field. -/
theorem Request.eq_of_carries {r r' : Request} {i : Instr} (h : r.Carries i) (h' : r'.Carries i)
    (hz : r.UnreadZero i.format) (hz' : r'.UnreadZero i.format) : r = r' := by
  obtain ⟨hop, ha8, hw0, hw1, hh⟩ := h
  obtain ⟨hop', ha8', hw0', hw1', hh'⟩ := h'
  obtain ⟨za8, zw0, zw1, zh⟩ := hz
  obtain ⟨za8', zw0', zw1', zh'⟩ := hz'
  have field {α : Type} {b : Bool} {x y u v : α} (hx : b = true → x = u) (hy : b = true → y = u) (zx : b = false → x = v)
      (zy : b = false → y = v) : x = y := by
    cases b with
    | true => exact (hx rfl).trans (hy rfl).symm
    | false => exact (zx rfl).trans (zy rfl).symm
  rw [← r.pack_fields, ← r'.pack_fields, hop.trans hop'.symm, field ha8 ha8' za8 za8', field hw0 hw0' zw0 zw0',
    field hw1 hw1' zw1 zw1', field hh hh' zh zh']

end Sys2Proof
end

section
/-! PROOFS. The encoding statements (30_encoding.md R60 to R64, R80). -/

namespace Sys2Proof.Proofs

open Sys2Proof Sys2Proof.Machine

/-- Settles O1: the encoding of an operation carries it. -/
theorem decodeOfEncodeIsIdentity : Obligations.DecodeOfEncodeIsIdentity := by
  unfold Obligations.DecodeOfEncodeIsIdentity
  exact fun i => decode_of_carries (Request.carries_encode i)

/-- Settles O2: the request and the encoding carry the same operation and are both zero in the fields it does not read. -/
theorem encodeOfDecodeIsIdentity : Obligations.EncodeOfDecodeIsIdentity := by
  unfold Obligations.EncodeOfDecodeIsIdentity
  intro r i hw hd
  exact Request.eq_of_carries (Request.carries_encode i) (carries_of_decode hd)
    (Request.unreadZero_of_wellFormed (encode_wellFormed i) (decode_of_carries (Request.carries_encode i)))
    (Request.unreadZero_of_wellFormed hw hd)

/-- Settles O3: the opcode map covers `assignedOps`, acceptance of an undecoded request settles in the one step, and a request
that agrees in the fields read carries the same operation. -/
theorem unassignedOpIsIllegalAndUnusedFieldsAreIgnored :
    Obligations.UnassignedOpIsIllegalAndUnusedFieldsAreIgnored := by
  unfold Obligations.UnassignedOpIsIllegalAndUnusedFieldsAreIgnored
  refine ⟨exists_decode_iff, fun s r rest hop hhost hq hb => ?_, fun r r' i hd hop ha8 hw0 hw1 hhreq => ?_⟩
  · have hturn : turn s = .settle (finish (.fail .illegalOp) { takeInput s with opr := .illegalOp r.op }) := by
      rw [turn_request s r rest hhost hq hb, acceptRequest, decode_of_not_mem hop]
    rw [step, hturn]
    simp [finish, takeInput, hhost, hq, hb]
  · obtain ⟨cop, ca8, cw0, cw1, chreq⟩ := carries_of_decode hd
    exact decode_of_carries ⟨hop.trans cop, fun h => (ha8 h).trans (ca8 h), fun h => (hw0 h).trans (cw0 h),
      fun h => (hw1 h).trans (cw1 h), fun h => (hhreq h).trans (chreq h)⟩

/-- Settles O4: the decoder evaluated on the six words. -/
theorem sampleRequestWordsDecode : Obligations.SampleRequestWordsDecode := by
  unfold Obligations.SampleRequestWordsDecode
  exact ⟨rfl, rfl, rfl, rfl, rfl, rfl⟩

end Sys2Proof.Proofs
end

section
/-! SUPPORT. One inversion rule for the micro-step (46_sequencer_steps.md R170 to R179): everything it can do, named; and what
it keeps, appends and delivers, each read off that rule once. -/

namespace Sys2Proof.Machine

/-! ### Everything a micro-step can do -/

/-- The outcomes of one micro-step of operation `i` in state `s`: first those of acceptance, then those of each other
sequencer state. -/
inductive MicroStep (i : Instr) (s : State) : State → Prop
  | refused (f : Failure) (hq : s.seq = .idle) (hf : f ∈ i.failures) :
      MicroStep i s (finish (.fail f) { s with opr := .instr i })
  | addressSet (a : Byte) (hq : s.seq = .idle) (hi : i = .setaddr a) (hm : s.mode = .normal) :
      MicroStep i s (finish (.ok .noValue) { s with opr := .instr i, addr := low7 a, addrSet := true })
  | sessionEnded (hq : s.seq = .idle) (hi : i = .teardown) (hm : s.mode = .normal) :
      MicroStep i s (finish (.ok .noValue) (endSession { s with opr := .instr i }))
  | humidityGiven (raw : Word) (hq : s.seq = .idle) (hi : i = .b2h raw) :
      MicroStep i s (finish (.ok (.hum (bitsToHumidity raw))) { s with opr := .instr i })
  | wordGiven (h : HumIn) (hq : s.seq = .idle) (hi : i = .h2b h) :
      MicroStep i s (finish (.ok (.word (humidityOperandToBits h))) { s with opr := .instr i })
  | accepted (q : Seq) (c : Byte) (w : Word) (hq : s.seq = .idle) (hbusy : q ≠ .idle) (hadm : i.admits q = true)
      (hpoll : inPoll q = false) (hmode : inTransaction q = true → s.mode = .inCommandMode)
      (haddr : s.addrSet = true ∨ s.mode = .inCommandMode) :
      MicroStep i s { s with opr := .instr i, cmd := c, txw := w, busy := true, seq := q }
  | startSent (hq : s.seq = .startTx) :
      MicroStep i s { sendFrame Config.CMD_START 0x00 0x00 s with seq := .startRx }
  | entered (hq : s.seq = .startRx) (hcm : (statusDecode (answer s 0)).cm = true) :
      MicroStep i s (finish (.ok .noValue) { busRead1 s with mode := .inCommandMode })
  | notEntered (hq : s.seq = .startRx) : MicroStep i s (finish (.fail .enterFailed) (busRead1 s))
  | exitSent (hq : s.seq = .exitTx) (hi : i ≠ .teardown) :
      MicroStep i s (finish (.ok .noValue) { sendFrame Config.CMD_EXIT 0x00 0x00 s with mode := .normal })
  | tornDown (hq : s.seq = .exitTx) (hi : i = .teardown) :
      MicroStep i s (finish (.ok .noValue) (endSession { sendFrame Config.CMD_EXIT 0x00 0x00 s with mode := .normal }))
  | readSent (hq : s.seq = .rdTx) : MicroStep i s { sendFrame s.cmd 0x00 0x00 s with seq := .rdPoll }
  | readBusy (hq : s.seq = .rdPoll) (hleft : s.pcnt + 1 < s.pollLimit) : MicroStep i s (pollRead3 s)
  | readFailed (f : Failure) (hq : s.seq = .rdPoll) (hf : f = .timeout ∨ f = .deviceNack) :
      MicroStep i s (finish (.fail f) (pollRead3 s))
  | readAnswered (r : Result) (hq : s.seq = .rdPoll) (hshape : i.shape = .read) (hword : i.deliversWord = true)
      (hr : i.deliversHumidity = false ∧ r = .word (readWord s) ∨
        i.deliversHumidity = true ∧ r = .wordHum (readWord s) (bitsToHumidity (readWord s))) :
      MicroStep i s (finish (.ok r) { pollRead3 s with rxw := readWord s })
  | readContinued (w : Word) (hq : s.seq = .rdPoll) (hshape : i.shape = .change) : MicroStep i s (changeRead w s)
  | writeSent (hq : s.seq = .wrTx) :
      MicroStep i s { sendFrame s.cmd (hi8 s.txw) (lo8 s.txw) s with seq := .wrPoll }
  | writeBusy (hq : s.seq = .wrPoll) (hleft : s.pcnt + 1 < s.pollLimit) : MicroStep i s (pollRead1 s)
  | writeFailed (f : Failure) (hq : s.seq = .wrPoll) (hf : f = .timeout ∨ f = .deviceNack) :
      MicroStep i s (finish (.fail f) (pollRead1 s))
  | writeDone (hq : s.seq = .wrPoll) : MicroStep i s (finish (.ok .noValue) (pollRead1 s))

theorem exec_rdPoll (i : Instr) (s : State) (hq : s.seq = .rdPoll) : exec i s = stepRdPoll (routine i).onRead s :=
  (exec_eq_microStep i s).trans (microStep_rdPoll i _ s hq)

theorem exec_wrPoll (i : Instr) (s : State) (hq : s.seq = .wrPoll) : exec i s = stepWrPoll s :=
  (exec_eq_microStep i s).trans (microStep_wrPoll i _ s hq)

theorem exec_idle_cases (i : Instr) (s : State) (hq : s.seq = .idle) : ∃ t, exec i s = .next t ∧ MicroStep i s t := by
  rw [exec_idle i s hq]
  rcases accept_cases i { s with opr := .instr i } with ⟨f, hf, ha⟩ | ⟨a, hi, hm, -, ha⟩ | ⟨hi, hm, ha⟩ | ⟨raw, hi, ha⟩ |
      ⟨h, hi, ha⟩ | ⟨q, c, w, hbusy, hadm, hpoll, -, hmode, haddr, ha⟩
  · exact ⟨_, ha, .refused f hq hf⟩
  · exact ⟨_, ha, .addressSet a hq hi hm⟩
  · exact ⟨_, ha, .sessionEnded hq hi hm⟩
  · exact ⟨_, ha, .humidityGiven raw hq hi⟩
  · exact ⟨_, ha, .wordGiven h hq hi⟩
  · exact ⟨_, ha, .accepted q c w hq hbusy hadm hpoll hmode haddr⟩

theorem exec_startRx_cases (i : Instr) (s : State) (hq : s.seq = .startRx) :
    ∃ t, exec i s = .next t ∧ MicroStep i s t := by
  rw [exec_startRx i s hq]
  rcases stepStartRx_cases s with ⟨hcm, hstep⟩ | ⟨-, hstep⟩
  · exact ⟨_, hstep, .entered hq hcm⟩
  · exact ⟨_, hstep, .notEntered hq⟩

theorem exec_exitTx_cases (i : Instr) (s : State) (hq : s.seq = .exitTx) :
    ∃ t, exec i s = .next t ∧ MicroStep i s t := by
  rw [exec_exitTx i s hq]
  rcases onExit_cases i { sendFrame Config.CMD_EXIT 0x00 0x00 s with mode := .normal } with ⟨hi, hex⟩ | ⟨hi, hex⟩
  · exact ⟨_, by rw [hex], .tornDown hq hi⟩
  · exact ⟨_, by rw [hex], .exitSent hq hi⟩

theorem exec_wrPoll_cases (i : Instr) (s : State) (hq : s.seq = .wrPoll) :
    ∃ t, exec i s = .next t ∧ MicroStep i s t := by
  rw [exec_wrPoll i s hq]
  rcases stepWrPoll_cases s with ⟨-, hleft, hstep⟩ | ⟨-, -, hstep⟩ | ⟨-, -, hstep⟩ | ⟨-, -, hstep⟩
  · exact ⟨_, hstep, .writeBusy hq hleft⟩
  · exact ⟨_, hstep, .writeFailed .timeout hq (.inl rfl)⟩
  · exact ⟨_, hstep, .writeFailed .deviceNack hq (.inr rfl)⟩
  · exact ⟨_, hstep, .writeDone hq⟩

theorem exec_rdPoll_cases (i : Instr) (s : State) (hq : s.seq = .rdPoll) :
    (∃ t, exec i s = .next t ∧ MicroStep i s t) ∨
    (i.shape ≠ .read ∧ i.shape ≠ .change ∧ exec i s = .fault .noContinuation) := by
  rw [exec_rdPoll i s hq]
  rcases stepRdPoll_cases (routine i).onRead s with ⟨-, hleft, hstep⟩ | ⟨-, -, hstep⟩ | ⟨-, -, hstep⟩ | ⟨-, -, hstep⟩
  · exact .inl ⟨_, hstep, .readBusy hq hleft⟩
  · exact .inl ⟨_, hstep, .readFailed .timeout hq (.inl rfl)⟩
  · exact .inl ⟨_, hstep, .readFailed .deviceNack hq (.inr rfl)⟩
  · rw [hstep]
    rcases onRead_cases i (readWord s) { pollRead3 s with rxw := readWord s } with ⟨hshape, hword, r, hon, hr⟩ |
        ⟨hshape, w, hon⟩ | hstray
    · exact .inl ⟨_, hon, .readAnswered r hq hshape hword hr⟩
    · exact .inl ⟨_, hon, .readContinued w hq hshape⟩
    · exact .inr hstray

/-- A micro-step is one of the named outcomes, or the read poll of an operation that never reads (log entry 14). -/
theorem exec_cases (i : Instr) (s : State) :
    (∃ t, exec i s = .next t ∧ MicroStep i s t) ∨
    (s.seq = .rdPoll ∧ i.shape ≠ .read ∧ i.shape ≠ .change ∧ exec i s = .fault .noContinuation) := by
  cases hq : s.seq with
  | idle => exact .inl (exec_idle_cases i s hq)
  | startTx => exact .inl ⟨_, exec_startTx i s hq, .startSent hq⟩
  | startRx => exact .inl (exec_startRx_cases i s hq)
  | exitTx => exact .inl (exec_exitTx_cases i s hq)
  | rdTx => exact .inl ⟨_, exec_rdTx i s hq, .readSent hq⟩
  | rdPoll => exact (exec_rdPoll_cases i s hq).imp_right (⟨rfl, ·⟩)
  | wrTx => exact .inl ⟨_, exec_wrTx i s hq, .writeSent hq⟩
  | wrPoll => exact .inl (exec_wrPoll_cases i s hq)

theorem MicroStep.of_exec {i : Instr} {s t : State} (h : exec i s = .next t) : MicroStep i s t := by
  rcases exec_cases i s with ⟨t', ht', hstep⟩ | ⟨-, -, -, hfault⟩
  · cases h.symm.trans ht'
    exact hstep
  · cases h.symm.trans hfault

/-! ### The sequencer states of an operation -/

theorem shape_of_admits_start {i : Instr} (h : i.admits .startTx = true ∨ i.admits .startRx = true) : i.shape = .enter := by
  cases hs : i.shape <;> simp [Instr.admits, hs, Shape.admits] at h ⊢

theorem shape_of_admits_exit {i : Instr} (h : i.admits .exitTx = true) : i.shape = .exit := by
  cases hs : i.shape <;> simp [Instr.admits, hs, Shape.admits] at h ⊢

theorem shape_of_admits_read {i : Instr} (h : i.admits .rdTx = true ∨ i.admits .rdPoll = true) :
    i.shape = .read ∨ i.shape = .change := by
  cases hs : i.shape <;> simp [Instr.admits, hs, Shape.admits] at h ⊢

theorem shape_of_admits_write {i : Instr} (h : i.admits .wrTx = true ∨ i.admits .wrPoll = true) :
    i.shape = .write ∨ i.shape = .change := by
  cases hs : i.shape <;> simp [Instr.admits, hs, Shape.admits] at h ⊢

theorem eq_enter_of_admits_startRx {i : Instr} (h : i.admits .startRx = true) : i = .enter := by
  have hshape := shape_of_admits_start (.inr h)
  cases i <;> simp [Instr.shape] at hshape ⊢

theorem eq_of_admits_exitTx {i : Instr} (h : i.admits .exitTx = true) : i = .exit ∨ i = .teardown := by
  have hshape := shape_of_admits_exit h
  cases i <;> simp [Instr.shape] at hshape ⊢

/-- In a sequencer state of its own an operation goes on. -/
theorem exec_of_admits {i : Instr} {s : State} (h : i.admits s.seq = true) : ∃ t, exec i s = .next t := by
  rcases exec_cases i s with ⟨t, ht, -⟩ | ⟨hq, hread, hchange, -⟩
  · exact ⟨t, ht⟩
  · exact ((shape_of_admits_read (.inr (hq ▸ h))).elim hread hchange).elim

/-! ### What a micro-step keeps, appends and delivers -/

namespace MicroStep

variable {i : Instr} {s t : State}

/-- The parameter, the host's list and the events of before the last reset are kept; the environment is read front to back. -/
theorem inputs (h : MicroStep i s t) :
    t.pollLimit = s.pollLimit ∧ t.host = s.host ∧ t.earlier = s.earlier ∧ ∃ n, t.answers = s.answers.drop n := by
  cases h with
  | entered | notEntered | writeBusy | writeFailed | writeDone => exact ⟨rfl, rfl, rfl, 1, rfl⟩
  | readBusy | readFailed | readAnswered | readContinued => exact ⟨rfl, rfl, rfl, 3, rfl⟩
  | _ => exact ⟨rfl, rfl, rfl, 0, rfl⟩

/-- Acceptance appends nothing to the bus trace; every other micro-step appends one event, which carries `ADDR`. -/
theorem trace (h : MicroStep i s t) :
    (s.seq = .idle ∧ t.trace = s.trace) ∨ (s.seq ≠ .idle ∧ ∃ e, t.trace = s.trace ++ [e] ∧ e.address = busAddr s.addr) := by
  cases h with
  | refused _ hq | addressSet _ hq | sessionEnded hq | humidityGiven _ hq | wordGiven _ hq | accepted _ _ _ hq =>
    exact .inl ⟨hq, rfl⟩
  | startSent hq | entered hq | notEntered hq | exitSent hq | tornDown hq | readSent hq | readBusy hq | readFailed _ hq
  | readAnswered _ hq | readContinued _ hq | writeSent hq | writeBusy hq | writeFailed _ hq | writeDone hq =>
    exact .inr ⟨by simp [hq], _, rfl, rfl⟩

/-- An operation that ends in this step delivers one response, `BUSY` is 0 and `SEQ` is `IDLE`; one that goes on delivers
none. -/
theorem ending (h : MicroStep i s t) :
    (t.seq = .idle ∧ t.busy = false ∧ ∃ r, t.replies = s.replies ++ [r]) ∨ (t.seq ≠ .idle ∧ t.replies = s.replies) := by
  cases h with
  | accepted _ _ _ _ hbusy => exact .inr ⟨hbusy, rfl⟩
  | readBusy hq | writeBusy hq => exact .inr ⟨by simp [hq], rfl⟩
  | startSent | readSent | readContinued | writeSent => exact .inr ⟨nofun, rfl⟩
  | _ => exact .inl ⟨rfl, rfl, _, rfl⟩

/-- The session registers change only in a step that ends with `OK`, and only in these four ways. -/
theorem session (h : MicroStep i s t) :
    (t.addr = s.addr ∧ t.addrSet = s.addrSet ∧ t.mode = s.mode) ∨
    (t.replies = s.replies ++ [.ok .noValue] ∧
      ((∃ a, i = .setaddr a ∧ s.mode = .normal ∧ t.mode = s.mode) ∨
       (i = .teardown ∧ t.mode = .normal ∧ (s.mode = .normal ∨ s.seq = .exitTx)) ∨
       (t.addr = s.addr ∧ t.addrSet = s.addrSet ∧ t.mode = .inCommandMode ∧ s.seq = .startRx ∧
        (statusDecode (answer s 0)).cm = true) ∨
       (t.addr = s.addr ∧ t.addrSet = s.addrSet ∧ t.mode = .normal ∧ s.seq = .exitTx))) := by
  cases h with
  | addressSet a _ hi hm => exact .inr ⟨rfl, .inl ⟨a, hi, hm, rfl⟩⟩
  | sessionEnded _ hi hm => exact .inr ⟨rfl, .inr (.inl ⟨hi, hm, .inl hm⟩)⟩
  | tornDown hq hi => exact .inr ⟨rfl, .inr (.inl ⟨hi, rfl, .inr hq⟩)⟩
  | entered hq hcm => exact .inr ⟨rfl, .inr (.inr (.inl ⟨rfl, rfl, rfl, hq, hcm⟩))⟩
  | exitSent hq => exact .inr ⟨rfl, .inr (.inr (.inr ⟨rfl, rfl, rfl, hq⟩))⟩
  | _ => exact .inl ⟨rfl, rfl, rfl⟩

end MicroStep

/-! ### Which responses an operation delivers -/

/-- A failure that the row of 60_exceptions.md R191 marks, or a success that carries what the operation delivers
(30_encoding.md R62). -/
def Reply.Fits (i : Instr) : Reply → Prop
  | .fail f => f ∈ i.failures
  | .ok r => (Reply.ok r).valid = i.deliversWord ∧ (Reply.ok r).hvalid = i.deliversHumidity

theorem poll_failures {i : Instr} (h : i.isRegisterOp = true) :
    Failure.timeout ∈ i.failures ∧ Failure.deviceNack ∈ i.failures := by
  cases i <;> simp [Instr.isRegisterOp, Instr.shape, Instr.failures] at h ⊢

theorem isRegisterOp_of_shape {i : Instr} (h : i.shape = .read ∨ i.shape = .write ∨ i.shape = .change) :
    i.isRegisterOp = true := by
  rcases h with h | h | h <;> simp [Instr.isRegisterOp, h]

theorem delivers_nothing_of_shape {i : Instr} (h : i.shape ≠ .read) (h' : i.shape ≠ .immediate) :
    i.deliversWord = false ∧ i.deliversHumidity = false := by
  cases i <;> simp [Instr.shape, Instr.deliversWord, Instr.deliversHumidity] at h h' ⊢

theorem fits_noValue {i : Instr} (h : i.shape ≠ .read) (h' : i.shape ≠ .immediate) : (Reply.ok .noValue).Fits i := by
  obtain ⟨hw, hh⟩ := delivers_nothing_of_shape h h'
  simp [Reply.Fits, hw, hh, Reply.valid, Reply.hvalid, Reply.word?, Reply.humidity?]

theorem fits_poll_failure {i : Instr} {f : Failure} (hi : i.isRegisterOp = true) (hf : f = .timeout ∨ f = .deviceNack) :
    (Reply.fail f).Fits i := by
  rcases hf with rfl | rfl
  · exact (poll_failures hi).1
  · exact (poll_failures hi).2

theorem MicroStep.reply_fits {i : Instr} {s t : State} (h : MicroStep i s t) (hadm : i.admits s.seq = true) {r : Reply}
    (hr : t.replies = s.replies ++ [r]) : r.Fits i := by
  have reply {r' : Reply} (hr' : s.replies ++ [r'] = s.replies ++ [r]) : r' = r := by simpa using hr'
  cases h with
  | refused f _ hf => cases reply hr; exact hf
  | addressSet a _ hi | sessionEnded _ hi | humidityGiven _ _ hi | wordGiven _ _ hi =>
    cases reply hr; subst hi; exact ⟨rfl, rfl⟩
  | entered hq => cases reply hr; cases eq_enter_of_admits_startRx (hq ▸ hadm); exact ⟨rfl, rfl⟩
  | notEntered hq => cases reply hr; cases eq_enter_of_admits_startRx (hq ▸ hadm); simp [Reply.Fits, Instr.failures]
  | exitSent hq | tornDown hq =>
    cases reply hr
    rcases eq_of_admits_exitTx (hq ▸ hadm) with rfl | rfl <;> exact ⟨rfl, rfl⟩
  | readFailed f hq hf =>
    cases reply hr
    exact fits_poll_failure (isRegisterOp_of_shape ((shape_of_admits_read (.inr (hq ▸ hadm))).imp_right .inr)) hf
  | readAnswered r' _ _ hword hres =>
    cases reply hr
    rcases hres with ⟨hhum, rfl⟩ | ⟨hhum, rfl⟩ <;> exact ⟨hword.symm, hhum.symm⟩
  | writeFailed f hq hf =>
    cases reply hr
    exact fits_poll_failure (isRegisterOp_of_shape (.inr (shape_of_admits_write (.inr (hq ▸ hadm))))) hf
  | writeDone hq =>
    cases reply hr
    rcases shape_of_admits_write (.inr (hq ▸ hadm)) with hs | hs <;> exact fits_noValue (by simp [hs]) (by simp [hs])
  | accepted | startSent | readSent | readBusy | readContinued | writeSent | writeBusy =>
    exact absurd hr (by simp [changeRead])

end Sys2Proof.Machine
end

section
/-! PROOFS. What an operation never does (10_state.md R26, R36; 40_lifecycle.md R94; 60_exceptions.md R191, R193, R195) and the
lanes of its response (30_encoding.md R62), each for one micro-step. -/

namespace Sys2Proof.Proofs

open Sys2Proof Sys2Proof.Machine

/-- Settles O16: two of the four ways the session changes keep the address, the other two are `SETADDR` and `TEARDOWN`. -/
theorem onlySetaddrAndTeardownWriteTheAddress : Obligations.OnlySetaddrAndTeardownWriteTheAddress := by
  unfold Obligations.OnlySetaddrAndTeardownWriteTheAddress
  intro i s t h hset htear
  rcases (MicroStep.of_exec h).session with ⟨ha, has, -⟩ | ⟨-, ⟨a, hi, -⟩ | ⟨hi, -⟩ | ⟨ha, has, -⟩ | ⟨ha, has, -⟩⟩
  · exact ⟨ha, has⟩
  · exact absurd hi (hset a)
  · exact absurd hi htear
  · exact ⟨ha, has⟩
  · exact ⟨ha, has⟩

/-- Settles O17: `SETADDR` sets the address in Normal only. -/
theorem addressIsKeptInCommandMode : Obligations.AddressIsKeptInCommandMode := by
  unfold Obligations.AddressIsKeptInCommandMode
  intro i s t h hmode htear
  rcases (MicroStep.of_exec h).session with ⟨ha, has, -⟩ | ⟨-, ⟨a, -, hm, -⟩ | ⟨hi, -⟩ | ⟨ha, has, -⟩ | ⟨ha, has, -⟩⟩
  · exact ⟨ha, has⟩
  · cases hmode.symm.trans hm
  · exact absurd hi htear
  · exact ⟨ha, has⟩
  · exact ⟨ha, has⟩

/-- Settles O18: of the ways the session changes one raises `MODE`, in `START_RX`, and one lowers it, in `EXIT_TX`; the
sequencer state tells the operation. -/
theorem modeChangesOnlyByEnterExitTeardown : Obligations.ModeChangesOnlyByEnterExitTeardown := by
  unfold Obligations.ModeChangesOnlyByEnterExitTeardown
  intro i s t h hadm
  rcases (MicroStep.of_exec h).session with ⟨-, -, hm⟩ |
      ⟨-, ⟨-, -, -, hm⟩ | ⟨-, ht, hs⟩ | ⟨-, -, ht, hq, hcm⟩ | ⟨-, -, ht, hq⟩⟩
  · simp +contextual [hm]
  · simp +contextual [hm]
  · refine ⟨fun _ hrise => absurd (ht.symm.trans hrise) nofun, fun hcmd _ => ?_⟩
    have hq : s.seq = .exitTx := hs.resolve_left (by simp [hcmd])
    exact ⟨eq_of_admits_exitTx (hq ▸ hadm), hq⟩
  · exact ⟨fun _ _ => ⟨eq_enter_of_admits_startRx (hq ▸ hadm), hq, hcm⟩, fun _ hfall => absurd (ht.symm.trans hfall) nofun⟩
  · exact ⟨fun _ hrise => absurd (ht.symm.trans hrise) nofun, fun _ _ => ⟨eq_of_admits_exitTx (hq ▸ hadm), hq⟩⟩

/-- Settles O19: a micro-step ends its operation or goes on, and the two exclude each other by `SEQ`. -/
theorem endingDeliversOneResponse : Obligations.EndingDeliversOneResponse := by
  unfold Obligations.EndingDeliversOneResponse
  intro i s t h
  rcases (MicroStep.of_exec h).ending with ⟨hq, hb, hr⟩ | ⟨hq, hr⟩
  · exact ⟨fun _ => ⟨hb, hr⟩, fun hne => absurd hq hne⟩
  · exact ⟨fun he => absurd he hq, fun _ => hr⟩

/-- Settles O20: every change of the session comes with `OK`, which is neither no response nor a failure. -/
theorem failureLeavesTheSessionUnchanged : Obligations.FailureLeavesTheSessionUnchanged := by
  unfold Obligations.FailureLeavesTheSessionUnchanged
  intro i s t h hr
  rcases (MicroStep.of_exec h).session with hsame | ⟨hok, -⟩
  · exact hsame
  · rcases hr with hnone | ⟨f, hfail⟩
    · exact absurd (hok.symm.trans hnone) (by simp)
    · exact absurd (hok.symm.trans hfail) (by simp)

/-- Settles O21: every delivered reply fits its operation. -/
theorem failureOutcomesAreThoseOfTheMatrix : Obligations.FailureOutcomesAreThoseOfTheMatrix := by
  unfold Obligations.FailureOutcomesAreThoseOfTheMatrix
  exact fun i s t f h hadm hr => (MicroStep.of_exec h).reply_fits hadm hr

/-- Settles O22, by the rule for the inputs of a micro-step. -/
theorem operationsKeepParameterAndHostInputs : Obligations.OperationsKeepParameterAndHostInputs := by
  unfold Obligations.OperationsKeepParameterAndHostInputs
  exact fun i s t h => (MicroStep.of_exec h).inputs

end Sys2Proof.Proofs
end

section
/-! SUPPORT. The lanes of the response word (30_encoding.md R62, R72). -/

namespace Sys2Proof.Machine

theorem Failure.code_bounds (f : Failure) : f.code ≠ 0 ∧ f.code.toNat ≤ 8 := by
  cases f <;> decide

theorem rsp_outcome (r : Reply) : r.rsp.extractLsb' 17 4 = r.outcome := by
  apply BitVec.eq_of_getLsbD_eq
  intro k hk
  simp only [Reply.rsp, BitVec.getLsbD_extractLsb', BitVec.getLsbD_append, hk, decide_true, Bool.true_and]
  rw [if_neg (by omega), if_neg (by omega)]
  congr 1
  omega

theorem rsp_valid (r : Reply) : r.rsp.getLsbD 16 = r.valid := by
  rw [Reply.rsp, BitVec.getLsbD_append, if_neg (by omega), BitVec.getLsbD_append, if_pos (by omega), Nat.sub_self,
    BitVec.getLsbD_ofBool, decide_eq_true rfl, Bool.true_and]

theorem rsp_value (r : Reply) : r.rsp.extractLsb' 0 16 = r.value := by
  apply BitVec.eq_of_getLsbD_eq
  intro k hk
  simp only [Reply.rsp, BitVec.getLsbD_extractLsb', BitVec.getLsbD_append, hk, decide_true, Bool.true_and]
  rw [if_pos (by omega), Nat.zero_add]

/-- Absent lanes are driven at zero. -/
theorem value_of_not_valid {r : Reply} (h : r.valid = false) : r.value = 0 := by
  rw [Reply.value, Option.isSome_eq_false_iff.mp h |> Option.isNone_iff_eq_none.mp]
  rfl

theorem hrsp_of_not_hvalid {r : Reply} (h : r.hvalid = false) : r.response.hrsp = Config.humOutEnc 0 := by
  change Config.humOutEnc (r.humidity?.getD 0) = _
  rw [Option.isSome_eq_false_iff.mp h |> Option.isNone_iff_eq_none.mp]
  rfl

theorem hrsp_of_humidity {r : Reply} {q : Rat} (h : r.humidity? = some q) :
    r.hvalid = true ∧ r.response.hrsp = Config.humOutEnc q := by
  constructor
  · rw [Reply.hvalid, h]
    rfl
  · change Config.humOutEnc (r.humidity?.getD 0) = _
    rw [h]
    rfl

/-- A reply that fits its operation is valid exactly on `OK` of an operation that delivers. -/
theorem valid_iff_of_fits {i : Instr} {r : Reply} (h : r.Fits i) :
    (r.valid = true ↔ r.outcome = 0 ∧ i.deliversWord = true) ∧
    (r.hvalid = true ↔ r.outcome = 0 ∧ i.deliversHumidity = true) := by
  cases r with
  | fail f =>
    have hcode : f.code ≠ 0#4 := f.code_bounds.1
    simp [Reply.valid, Reply.hvalid, Reply.word?, Reply.humidity?, Reply.outcome, hcode]
  | ok res =>
    obtain ⟨hw, hh⟩ := h
    simp [hw, hh, Reply.outcome]

end Sys2Proof.Machine
end

section
/-! PROOFS. The response (30_encoding.md R62, R72). -/

namespace Sys2Proof.Proofs

open Sys2Proof Sys2Proof.Machine

/-- Settles O49: the lanes are cut from the packed word; which of them carry a value follows from the reply fitting its
operation. -/
theorem responseLanes : Obligations.ResponseLanes := by
  unfold Obligations.ResponseLanes
  refine ⟨fun r => ⟨rsp_outcome r, rsp_valid r, rsp_value r, value_of_not_valid, rfl, hrsp_of_not_hvalid,
    fun q => hrsp_of_humidity, rfl⟩, fun i s t r h hadm hr => ?_⟩
  exact valid_iff_of_fits ((MicroStep.of_exec h).reply_fits hadm hr)

/-- Settles O50: the codes by evaluation, the bound by the two kinds of reply. -/
theorem outcomeCodes : Obligations.OutcomeCodes := by
  unfold Obligations.OutcomeCodes
  refine ⟨fun _ => rfl, rfl, rfl, rfl, rfl, rfl, rfl, rfl, rfl, fun r => ?_⟩
  cases r with
  | ok res => exact Nat.zero_le 8
  | fail f => exact f.code_bounds.2

end Sys2Proof.Proofs
end

section
/-! SUPPORT. The machine's step: everything a turn can do (60_exceptions.md R197, 46_sequencer_steps.md R171, R181,
70_reset_and_hazards.md R210), and the invariant under one micro-step and one turn. -/

namespace Sys2Proof.Machine

/-! ### Everything a turn can do -/

theorem turn_idle_cases (s : State) (hq : s.seq = .idle) (hne : s.host.head? ≠ some .reset) :
    turn s = .settle s ∨ turn s = .settle (takeInput s) ∨
    (∃ r rest, s.host = .request r :: rest ∧ s.busy = false ∧ turn s = acceptRequest r s) := by
  cases hh : s.host with
  | nil => exact .inl (turn_rest s hh hq)
  | cons x rest =>
    cases x with
    | reset => exact absurd (by rw [hh]; rfl) hne
    | quiet => exact .inr (.inl (by simp [turn, hh, hq]))
    | request r =>
      cases hb : s.busy with
      | false => exact .inr (.inr ⟨r, rest, rfl, rfl, turn_request s r rest hh hq hb⟩)
      | true => exact .inl (by simp [turn, hh, hq, hb])

/-- While an operation is in progress a turn resumes it; a quiet turn of the host is used up. -/
theorem turn_busy (s : State) (hq : s.seq ≠ .idle) (hne : s.host.head? ≠ some .reset) :
    (s.host.head? = some .quiet → turn s = resume (takeInput s)) ∧ (s.host.head? ≠ some .quiet → turn s = resume s) := by
  cases hh : s.host with
  | nil => exact ⟨nofun, fun _ => by cases hs : s.seq <;> simp_all [turn]⟩
  | cons x rest =>
    cases x with
    | reset => exact absurd (by rw [hh]; rfl) hne
    | quiet => exact ⟨fun _ => by cases hs : s.seq <;> simp_all [turn], fun h => absurd rfl h⟩
    | request r => exact ⟨nofun, fun _ => turn_held s r rest hh hq⟩

theorem resume_instr {i : Instr} {s : State} (h : s.opr = .instr i) : resume s = .run i s := by simp [resume, h]

theorem step_of_settle {s t : State} (h : turn s = .settle t) : step s = .next t := by rw [step, h]

theorem step_of_run {i : Instr} {s u : State} (h : turn s = .run i u) : step s = exec i u := by rw [step, h]

theorem step_resume {i : Instr} {s u : State} (h : turn s = resume u) (hopr : u.opr = .instr i) : step s = exec i u :=
  step_of_run (h.trans (resume_instr hopr))

/-- Taking a host input changes nothing else. -/
theorem takeInput_of_cons {s : State} {x : HostInput} {rest : List HostInput} (h : s.host = x :: rest) :
    takeInput s = { s with host := rest } := by rw [takeInput, h, List.tail_cons]

/-- The outcomes of one step of the machine from `s`. -/
inductive Turned (s : State) : State → Prop
  | reset (hh : s.host.head? = some .reset) : Turned s (resetEvent (takeInput s))
  | rested (hh : s.host.head? ≠ some .reset) (hq : s.seq = .idle) : Turned s s
  | waited (hh : s.host.head? ≠ some .reset) (hq : s.seq = .idle) : Turned s (takeInput s)
  | rejected (op : Byte) (hh : s.host.head? ≠ some .reset) (hq : s.seq = .idle) :
      Turned s (finish (.fail .illegalOp) { takeInput s with opr := .illegalOp op })
  | accepted (i : Instr) (t : State) (hh : s.host.head? ≠ some .reset) (hq : s.seq = .idle)
      (hstep : MicroStep i (takeInput s) t) : Turned s t
  | resumed (i : Instr) (u t : State) (hh : s.host.head? ≠ some .reset) (hq : s.seq ≠ .idle) (hopr : s.opr = .instr i)
      (hu : u = s ∨ u = takeInput s) (hstep : MicroStep i u t) : Turned s t

theorem Turned.of_resume {s u t : State} (hh : s.host.head? ≠ some .reset) (hq : s.seq ≠ .idle)
    (hu : u = s ∨ u = takeInput s) (hturn : turn s = resume u) (h : step s = .next t) : Turned s t := by
  cases hopr : u.opr with
  | illegalOp op => simp [step, hturn, resume, hopr] at h
  | instr i =>
    have hs : s.opr = .instr i := by rcases hu with rfl | rfl <;> exact hopr
    exact .resumed i u t hh hq hs hu (.of_exec ((step_resume hturn hopr).symm.trans h))

theorem Turned.of_step {s t : State} (h : step s = .next t) : Turned s t := by
  by_cases hh : s.host.head? = some .reset
  · obtain ⟨rest, hrest⟩ := List.head?_eq_some_iff.mp hh
    cases (step_of_settle (turn_reset s rest hrest)).symm.trans h
    exact .reset hh
  by_cases hq : s.seq = .idle
  · rcases turn_idle_cases s hq hh with hturn | hturn | ⟨r, rest, -, -, hturn⟩
    · cases (step_of_settle hturn).symm.trans h
      exact .rested hh hq
    · cases (step_of_settle hturn).symm.trans h
      exact .waited hh hq
    · cases hd : decode r with
      | instr i =>
        rw [acceptRequest, hd] at hturn
        exact .accepted i t hh hq (.of_exec ((step_of_run hturn).symm.trans h))
      | illegalOp op =>
        rw [acceptRequest, hd] at hturn
        cases (step_of_settle hturn).symm.trans h
        exact .rejected op hh hq
  · obtain ⟨hquiet, hother⟩ := turn_busy s hq hh
    by_cases hx : s.host.head? = some .quiet
    · exact .of_resume hh hq (.inr rfl) (hquiet hx) h
    · exact .of_resume hh hq (.inl rfl) (hother hx) h

/-! ### The invariant -/

/-- In `IDLE` four of the seven clauses speak of nothing. -/
theorem State.Inv.of_idle {s : State} (hlimit : 1 ≤ s.pollLimit) (hq : s.seq = .idle) (hb : s.busy = false)
    (hm : s.mode = .inCommandMode → s.addrSet = true) : s.Inv where
  limit := hlimit
  busySeq := by simp [hq, hb]
  modeAddr := hm
  busAddrSet := fun h => absurd hq h
  transactionMode := by simp [hq, inTransaction]
  oprFits := fun h => absurd hq h
  pollCount := by simp [hq, inPoll]

/-- While an operation is in progress `BUSY` and `ADDR_SET` are 1. -/
theorem State.Inv.of_busy {i : Instr} {s : State} (hlimit : 1 ≤ s.pollLimit) (hq : s.seq ≠ .idle) (hb : s.busy = true)
    (ha : s.addrSet = true) (hm : inTransaction s.seq = true → s.mode = .inCommandMode) (hopr : s.opr = .instr i)
    (hadm : i.admits s.seq = true) (hp : inPoll s.seq = true → s.pcnt < s.pollLimit) : s.Inv where
  limit := hlimit
  busySeq := by simp [hq, hb]
  modeAddr := fun _ => ha
  busAddrSet := fun _ => ha
  transactionMode := hm
  oprFits := fun _ => ⟨i, hopr, hadm⟩
  pollCount := hp

theorem State.Inv.takeInput {s : State} (h : s.Inv) : (takeInput s).Inv :=
  ⟨h.limit, h.busySeq, h.modeAddr, h.busAddrSet, h.transactionMode, h.oprFits, h.pollCount⟩

/-- The order in which an operation passes through its sequencer states. -/
theorem admits_next {i : Instr} :
    (i.admits .startTx = true → i.admits .startRx = true) ∧ (i.admits .rdTx = true → i.admits .rdPoll = true) ∧
    (i.admits .wrTx = true → i.admits .wrPoll = true) ∧ (i.shape = .change → i.admits .wrTx = true) := by
  cases hs : i.shape <;> simp [Instr.admits, hs, Shape.admits]

/-- A micro-step that does not end its operation keeps the invariant: it goes on to a state of the same operation. -/
theorem MicroStep.inv_of_busy {i : Instr} {s t : State} (h : MicroStep i s t) (hinv : s.Inv) (hadm : i.admits s.seq = true)
    (hopr : s.seq ≠ .idle → s.opr = .instr i) (hq : t.seq ≠ .idle) : t.Inv := by
  obtain ⟨hstart, hread, hwrite, hchange⟩ := admits_next (i := i)
  have goOn {q : Seq} (hs : s.seq = q) (hne : q ≠ .idle) : s.busy = true ∧ s.addrSet = true ∧ s.opr = .instr i :=
    have hsq : s.seq ≠ .idle := hs ▸ hne
    ⟨hinv.busySeq.mpr hsq, hinv.busAddrSet hsq, hopr hsq⟩
  have inCommand {q : Seq} (hs : s.seq = q) (htr : inTransaction q = true) : s.mode = .inCommandMode :=
    hinv.transactionMode (hs ▸ htr)
  cases h with
  | accepted q c w _ hbusy hadm' hpoll hmode haddr =>
    exact .of_busy hinv.limit hbusy rfl (haddr.elim id hinv.modeAddr) hmode rfl hadm' (by simp [hpoll])
  | startSent hs =>
    obtain ⟨hb, ha, ho⟩ := goOn hs nofun
    exact .of_busy hinv.limit nofun hb ha nofun ho (hstart (hs ▸ hadm)) nofun
  | readSent hs =>
    obtain ⟨hb, ha, ho⟩ := goOn hs nofun
    exact .of_busy hinv.limit nofun hb ha (fun _ => inCommand hs rfl) ho (hread (hs ▸ hadm)) (fun _ => hinv.limit)
  | readContinued w hs hshape =>
    obtain ⟨hb, ha, ho⟩ := goOn hs nofun
    exact .of_busy hinv.limit nofun hb ha (fun _ => inCommand hs rfl) ho (hchange hshape) nofun
  | writeSent hs =>
    obtain ⟨hb, ha, ho⟩ := goOn hs nofun
    exact .of_busy hinv.limit nofun hb ha (fun _ => inCommand hs rfl) ho (hwrite (hs ▸ hadm)) (fun _ => hinv.limit)
  | readBusy hs hleft | writeBusy hs hleft =>
    obtain ⟨hb, ha, ho⟩ := goOn hs nofun
    exact .of_busy hinv.limit hq hb ha (fun _ => inCommand hs rfl) ho hadm (fun _ => hleft)
  | _ => exact absurd rfl hq

/-- A micro-step that ends its operation keeps the invariant: only `ENTER`, with its address, sets `MODE`. -/
theorem MicroStep.inv_of_idle {i : Instr} {s t : State} (h : MicroStep i s t) (hinv : s.Inv) (hq : t.seq = .idle)
    (hb : t.busy = false) : t.Inv := by
  obtain ⟨hlimit, -⟩ := h.inputs
  refine .of_idle (hlimit ▸ hinv.limit) hq hb fun hm => ?_
  rcases h.session with ⟨-, has, hmode⟩ | ⟨-, ⟨-, -, hnormal, hmode⟩ | ⟨-, hmode, -⟩ | ⟨-, has, -, hs, -⟩ | ⟨-, -, hmode, -⟩⟩
  · rw [has]
    exact hinv.modeAddr (hmode ▸ hm)
  · cases hnormal.symm.trans (hmode.symm.trans hm)
  · cases hmode.symm.trans hm
  · rw [has]
    exact hinv.busAddrSet (by simp [hs])
  · cases hmode.symm.trans hm

theorem MicroStep.inv {i : Instr} {s t : State} (h : MicroStep i s t) (hinv : s.Inv) (hadm : i.admits s.seq = true)
    (hopr : s.seq ≠ .idle → s.opr = .instr i) : t.Inv := by
  rcases h.ending with ⟨hq, hb, -⟩ | ⟨hq, -⟩
  · exact h.inv_of_idle hinv hq hb
  · exact h.inv_of_busy hinv hadm hopr hq

theorem admits_idle (i : Instr) : i.admits .idle = true := by
  rw [Instr.admits]
  cases i.shape <;> rfl

theorem State.Inv.admits {i : Instr} {s : State} (h : s.Inv) (hq : s.seq ≠ .idle) (hopr : s.opr = .instr i) :
    i.admits s.seq = true := by
  obtain ⟨j, hj, hadm⟩ := h.oprFits hq
  cases hopr.symm.trans hj
  exact hadm

end Sys2Proof.Machine
end

section
/-! PROOFS. The machine's step and its invariant (10_state.md R25, R26, R35; 46_sequencer_steps.md R170, R171, R181;
60_exceptions.md R197, R198; 70_reset_and_hazards.md R210). -/

namespace Sys2Proof.Proofs

open Sys2Proof Sys2Proof.Machine

/-- Settles O5: the turn accepts the request, which decodes to an operation. -/
theorem stepRunsTheDecodedRequest : Obligations.StepRunsTheDecodedRequest := by
  unfold Obligations.StepRunsTheDecodedRequest
  intro s r rest i hhost hq hb hd
  rw [← takeInput_of_cons hhost]
  exact step_of_run (by rw [turn_request s r rest hhost hq hb, acceptRequest, hd])

/-- Settles O6: the turn resumes the operation in `OPR`, after a quiet turn with that input used up. -/
theorem stepResumesTheLatchedOperation : Obligations.StepResumesTheLatchedOperation := by
  unfold Obligations.StepResumesTheLatchedOperation
  intro s i hq hopr hne
  obtain ⟨hquiet, hother⟩ := turn_busy s hq hne
  exact ⟨fun h => step_resume (hquiet h) hopr, fun h => step_resume (hother h) hopr⟩

/-- Settles O7: the step is a micro-step, and those keep the host's list. -/
theorem requestIsHeldWhileBusy : Obligations.RequestIsHeldWhileBusy := by
  unfold Obligations.RequestIsHeldWhileBusy
  intro s t r rest hhost hq hstep
  have hturn := turn_held s r rest hhost hq
  cases hopr : s.opr with
  | illegalOp op => simp [step, hturn, resume, hopr] at hstep
  | instr i =>
    obtain ⟨-, hkept, -⟩ := (MicroStep.of_exec ((step_resume hturn hopr).symm.trans hstep)).inputs
    exact hkept

/-- Settles O8: a turn with nothing presented settles where it is. -/
theorem idleEngineRests : Obligations.IdleEngineRests := by
  unfold Obligations.IdleEngineRests
  exact fun s hhost hq => step_of_settle (turn_rest s hhost hq)

/-- Settles O9: the event is the whole of the step, and `resetEvent` leaves every other field to the environment. -/
theorem resetEventAtAnyMicroStep : Obligations.ResetEventAtAnyMicroStep := by
  unfold Obligations.ResetEventAtAnyMicroStep
  intro s rest hhost
  exact ⟨_, step_of_settle (turn_reset s rest hhost), by simp [hhost]⟩

/-- Settles O10: the spec's four values stand in `State.reset`. -/
theorem resetValues : Obligations.ResetValues := by
  unfold Obligations.ResetValues
  exact ⟨rfl, rfl, rfl, rfl⟩

/-- Settles O11: the engine is idle in Normal, and `POLL_LIMIT` is a successor. -/
theorem invariantHoldsAtReset : Obligations.InvariantHoldsAtReset := by
  unfold Obligations.InvariantHoldsAtReset
  exact .of_idle (Nat.le_add_left 1 _) rfl rfl nofun

/-- Settles O12: the reset event and a settled turn leave the engine idle; any other step is a micro-step of the operation
that `OPR` holds or of the one just accepted. -/
theorem everyStepKeepsTheInvariant : Obligations.EveryStepKeepsTheInvariant := by
  unfold Obligations.EveryStepKeepsTheInvariant
  intro s t hinv h
  cases Turned.of_step h with
  | reset => exact .of_idle hinv.limit rfl rfl nofun
  | rested => exact hinv
  | waited => exact hinv.takeInput
  | rejected => exact .of_idle hinv.limit rfl rfl hinv.modeAddr
  | accepted i t _ hq hstep =>
    have hidle : (takeInput s).seq = .idle := hq
    exact hstep.inv hinv.takeInput (hidle ▸ admits_idle i) (fun hne => absurd hidle hne)
  | resumed i u t _ hq hopr hu hstep =>
    have hadm := hinv.admits hq hopr
    rcases hu with rfl | rfl
    · exact hstep.inv hinv hadm fun _ => hopr
    · exact hstep.inv hinv.takeInput hadm fun _ => hopr

/-- Settles O13: a settled turn answers a state; a micro-step does so because the invariant ties `SEQ` to the operation. -/
theorem noStepStopsUnderTheInvariant : Obligations.NoStepStopsUnderTheInvariant := by
  unfold Obligations.NoStepStopsUnderTheInvariant
  intro s hinv
  by_cases hh : s.host.head? = some .reset
  · obtain ⟨rest, hrest⟩ := List.head?_eq_some_iff.mp hh
    exact ⟨_, step_of_settle (turn_reset s rest hrest)⟩
  by_cases hq : s.seq = .idle
  · rcases turn_idle_cases s hq hh with hturn | hturn | ⟨r, rest, -, -, hturn⟩
    · exact ⟨_, step_of_settle hturn⟩
    · exact ⟨_, step_of_settle hturn⟩
    · cases hd : decode r with
      | instr i =>
        rw [acceptRequest, hd] at hturn
        rw [step_of_run hturn]
        exact exec_of_admits (hq ▸ admits_idle i : i.admits s.seq = true)
      | illegalOp op =>
        rw [acceptRequest, hd] at hturn
        exact ⟨_, step_of_settle hturn⟩
  · obtain ⟨i, hopr, hadm⟩ := hinv.oprFits hq
    obtain ⟨hquiet, hother⟩ := turn_busy s hq hh
    by_cases hx : s.host.head? = some .quiet
    · rw [step_resume (hquiet hx) hopr]
      exact exec_of_admits hadm
    · rw [step_resume (hother hx) hopr]
      exact exec_of_admits hadm

/-- Settles O14: a turn that settles without a reset event leaves the trace alone, and a micro-step appends at most one
event. -/
theorem atMostOneBusEventPerStep : Obligations.AtMostOneBusEventPerStep := by
  unfold Obligations.AtMostOneBusEventPerStep
  intro s t h
  have quiet {u : State} (hu : u.trace = s.trace) : ∃ es, u.trace = s.trace ++ es ∧ es.length ≤ 1 :=
    ⟨[], by simp [hu], by simp⟩
  have micro {i : Instr} {u : State} (hu : u.earlier = s.earlier ∧ u.trace = s.trace) (hstep : MicroStep i u t) :
      t.earlier = s.earlier ∧ ∃ es, t.trace = s.trace ++ es ∧ es.length ≤ 1 := by
    obtain ⟨-, -, hearlier, -⟩ := hstep.inputs
    refine ⟨hearlier.trans hu.1, ?_⟩
    rcases hstep.trace with ⟨-, htrace⟩ | ⟨-, e, htrace, -⟩
    · exact quiet (htrace.trans hu.2)
    · exact ⟨[e], htrace.trans (by rw [hu.2]), le_refl _⟩
  cases Turned.of_step h with
  | reset hh => exact ⟨fun _ => ⟨rfl, rfl⟩, fun hne => absurd hh hne⟩
  | rested hh | waited hh | rejected _ hh => exact ⟨fun hr => absurd hr hh, fun _ => ⟨rfl, quiet rfl⟩⟩
  | accepted i _ hh _ hstep => exact ⟨fun hr => absurd hr hh, fun _ => micro (u := takeInput s) ⟨rfl, rfl⟩ hstep⟩
  | resumed i u _ hh _ _ hu hstep =>
    refine ⟨fun hr => absurd hr hh, fun _ => micro ?_ hstep⟩
    rcases hu with rfl | rfl <;> exact ⟨rfl, rfl⟩

/-- Settles O15: only a resumed operation appends an event, and the invariant gives it an address. -/
theorem busEventsCarryTheConfiguredAddress : Obligations.BusEventsCarryTheConfiguredAddress := by
  unfold Obligations.BusEventsCarryTheConfiguredAddress
  intro s t e hinv h he
  cases Turned.of_step h with
  | reset | rested | waited | rejected => exact absurd he (by simp)
  | accepted i t _ hq hstep =>
    rcases hstep.trace with ⟨-, htrace⟩ | ⟨hne, -⟩
    · exact absurd (htrace.symm.trans he) (by simp)
    · exact absurd hq hne
  | resumed i u t _ hq _ hu hstep =>
    have hsame : u.addr = s.addr ∧ u.trace = s.trace := by rcases hu with rfl | rfl <;> exact ⟨rfl, rfl⟩
    obtain ⟨haddr, hevents⟩ := hsame
    rcases hstep.trace with ⟨-, htrace⟩ | ⟨-, e', htrace, haddress⟩
    · exact absurd (htrace.symm.trans he) (by simp [hevents])
    · have hee : e' = e := by simpa [hevents] using htrace.symm.trans he
      rw [← hee, haddress, haddr, busAddr_eq_append]
      exact ⟨hinv.busAddrSet hq, rfl⟩

end Sys2Proof.Proofs
end

section
/-! SUPPORT. The register operations by their forms: what each of the 23 reads, writes or changes
(41_register_transactions.md to 44_config_change.md), said once, and their acceptance (46_sequencer_steps.md R171). -/

namespace Sys2Proof.Machine

/-! ### The four forms of a register operation -/

/-- The operation reads register command `cmd` and responds with `result` of the word. -/
def Reads (i : Instr) (cmd : Byte) (result : Word → Result) : Prop :=
  routine i = readRoutine cmd (fun v => respond (result v)) ∧ bigStep i = readAndRespond cmd result

/-- The operation writes `w` with register command `cmd`. -/
def Writes (i : Instr) (cmd : Byte) (w : Word) : Prop :=
  routine i = writeRoutine cmd w ∧ bigStep i = inCommandModeOnly (writeAndRespond cmd w)

/-- The operation reads customer-config and writes back `f` of it. -/
def Changes (i : Instr) (f : Word → Word) : Prop :=
  routine i = readRoutine Config.CMD_RD_CFG (fun v => continueWrite (f v)) ∧ bigStep i = readModifyWrite f

/-- The operation is refused for its argument. -/
def RefusesArgument (i : Instr) : Prop :=
  (routine i).accept = raise .invalidArgument ∧ bigStep i = finish (.fail .invalidArgument)

theorem addrTooBig_iff (a : Byte) : addrTooBig a = true ↔ 0x7F < a.toNat := by
  simp [addrTooBig, Config.ADDR_MAX, BitVec.lt_def]

theorem humArgument_some {q : Rat} (h0 : 0 ≤ q) (h100 : q ≤ 100) : humArgument (some q) = some q := by
  rcases humArgument_cases (some q) with ⟨-, hbad⟩ | ⟨_, ⟨⟩, -, -, harg⟩
  · rcases hbad q rfl with h | h <;> linarith
  · exact harg

/-- A threshold change is refused for its operand, or is the write of the converted operand. -/
theorem thresholdWrite_forms (cmd : Byte) (h : HumIn) :
    (badHumidity h = true ∧ (thresholdWrite cmd h).accept = raise .invalidArgument ∧
      bigThresholdWrite cmd h = finish (.fail .invalidArgument)) ∨
    (badHumidity h = false ∧ ∃ w, thresholdWrite cmd h = writeRoutine cmd w ∧
      bigThresholdWrite cmd h = inCommandModeOnly (writeAndRespond cmd w)) := by
  rcases humArgument_cases h with ⟨harg, hbad⟩ | ⟨q, rfl, h0, h100, harg⟩
  · refine .inl ⟨?_, by simp only [thresholdWrite, harg], funext fun s => ?_⟩
    · cases h with
      | none => rfl
      | some q => exact decide_eq_true (hbad q rfl)
    · cases h with
      | none => rfl
      | some q => exact if_pos (hbad q rfl)
  · have hgood : ¬(q < 0 ∨ 100 < q) := by
      rintro (h | h) <;> linarith
    exact .inr ⟨decide_eq_false hgood, _, by simp only [thresholdWrite, harg, writeRoutine], funext fun s => if_neg hgood⟩

/-- `CHGADDR` is refused for its operand, or is a change of customer-config. -/
theorem chgaddr_forms (a : Byte) :
    (0x7F < a.toNat ∧ RefusesArgument (.chgaddr a)) ∨ (¬0x7F < a.toNat ∧ Changes (.chgaddr a) (changedAddress · a)) := by
  by_cases ha : 0x7F < a.toNat
  · have hbig := (addrTooBig_iff a).mpr ha
    exact .inl ⟨ha, funext fun s => if_pos hbig, funext fun s => if_pos hbig⟩
  · have hfit := mt (addrTooBig_iff a).mp ha
    exact .inr ⟨ha, by simp [routine, readRoutine, hfit], funext fun s => if_neg hfit⟩

/-- Every register operation, by its shape. -/
theorem registerOp_forms (i : Instr) (hreg : i.isRegisterOp = true) :
    (i.badArgument = true ∧ RefusesArgument i) ∨
    (i.badArgument = false ∧
      ((i.shape = .read ∧ ∃ cmd result, Reads i cmd result) ∨ (i.shape = .write ∧ ∃ cmd w, Writes i cmd w) ∨
       (i.shape = .change ∧ ∃ f, Changes i f))) := by
  cases i with
  | setaddr | enter | exit | teardown | b2h | h2b => cases hreg
  | rdreg | rdahon | rdahoff | rdalon | rdaloff | rdcfg => exact .inr ⟨rfl, .inl ⟨rfl, _, _, rfl, rfl⟩⟩
  | wrregOr | wrregAnd => exact .inr ⟨rfl, .inr (.inl ⟨rfl, _, _, rfl, rfl⟩)⟩
  | wrahon h | wrahoff h | wralon h | wraloff h =>
    exact (thresholdWrite_forms _ h).imp id fun ⟨hgood, w, hw⟩ => ⟨hgood, .inr (.inl ⟨rfl, _, w, hw⟩)⟩
  | chgaddr a =>
    exact (chgaddr_forms a).imp (fun ⟨ha, hr⟩ => ⟨decide_eq_true ha, hr⟩)
      fun ⟨ha, hc⟩ => ⟨decide_eq_false ha, .inr (.inr ⟨rfl, _, hc⟩)⟩
  | alpolSet | alpolClr | aloutSet | aloutClr | ahpolSet | ahpolClr | ahoutSet | ahoutClr | su3msSet | su3msClr =>
    exact .inr ⟨rfl, .inr (.inr ⟨rfl, _, rfl, rfl⟩)⟩

/-- Acceptance of every register operation: the argument test, then the mode test. -/
theorem registerOp_accept (i : Instr) (hreg : i.isRegisterOp = true) :
    (i.badArgument = true ∧ (routine i).accept = raise .invalidArgument) ∨
    (i.badArgument = false ∧ ∃ k, (routine i).accept = needCommandMode k) := by
  rcases registerOp_forms i hreg with ⟨hbad, haccept, -⟩ |
      ⟨hgood, ⟨-, cmd, result, hroutine, -⟩ | ⟨-, cmd, w, hroutine, -⟩ | ⟨-, f, hroutine, -⟩⟩
  · exact .inl ⟨hbad, haccept⟩
  · exact .inr ⟨hgood, _, congrArg Routine.accept hroutine⟩
  · exact .inr ⟨hgood, _, congrArg Routine.accept hroutine⟩
  · exact .inr ⟨hgood, _, congrArg Routine.accept hroutine⟩

theorem eq_chgaddr_of_badArgument {i : Instr} (hshape : i.shape = .change) (hbad : i.badArgument = true) :
    ∃ a, i = .chgaddr a ∧ 0x7F < a.toNat := by
  cases i <;> simp_all [Instr.shape, Instr.badArgument]

/-! ### Acceptance of a register operation -/

theorem exec_accept_refused {i : Instr} {s : State} (hi : (routine i).accept = raise .invalidArgument)
    (hq : s.seq = .idle) : exec i s = .next (finish (.fail .invalidArgument) { s with opr := .instr i }) := by
  rw [exec_idle i s hq, hi, raise_eq]

theorem exec_accept_normal {i : Instr} {k : State → Answer} {s : State} (hi : (routine i).accept = needCommandMode k)
    (hq : s.seq = .idle) (hm : s.mode = .normal) :
    exec i s = .next (finish (.fail .notInCommandMode) { s with opr := .instr i }) := by
  rw [exec_idle i s hq, hi, needCommandMode_normal k { s with opr := .instr i } hm]

theorem exec_accept_inCommandMode {i : Instr} {k : State → Answer} {s : State}
    (hi : (routine i).accept = needCommandMode k) (hq : s.seq = .idle) (hm : s.mode = .inCommandMode) :
    exec i s = k { s with opr := .instr i } := by
  rw [exec_idle i s hq, hi, needCommandMode_inCommandMode k { s with opr := .instr i } hm]

theorem exec_accept_read {i : Instr} {cmd : Byte} {s : State} (hi : (routine i).accept = needCommandMode (beginRead cmd))
    (hq : s.seq = .idle) :
    exec i s = .next (if s.mode = .normal then finish (.fail .notInCommandMode) { s with opr := .instr i }
      else { s with opr := .instr i, cmd := cmd, busy := true, seq := .rdTx }) := by
  rcases mode_cases s.mode with hm | hm
  · rw [exec_accept_normal hi hq hm, if_pos hm]
  · rw [exec_accept_inCommandMode hi hq hm, if_neg (by simp [hm]), beginRead, enterBusy]

theorem exec_accept_write {i : Instr} {cmd : Byte} {w : Word} {s : State}
    (hi : (routine i).accept = needCommandMode (beginWrite cmd w)) (hq : s.seq = .idle) :
    exec i s = .next (if s.mode = .normal then finish (.fail .notInCommandMode) { s with opr := .instr i }
      else { s with opr := .instr i, cmd := cmd, txw := w, busy := true, seq := .wrTx }) := by
  rcases mode_cases s.mode with hm | hm
  · rw [exec_accept_normal hi hq hm, if_pos hm]
  · rw [exec_accept_inCommandMode hi hq hm, if_neg (by simp [hm]), beginWrite, enterBusy]

/-- The range test of a threshold change, before the mode test (43_threshold_change.md R125). -/
theorem exec_threshold_refused {i : Instr} {cmd : Byte} {h : HumIn} {s : State} (hi : routine i = thresholdWrite cmd h)
    (hq : s.seq = .idle) (hbad : ∀ q, h = some q → q < 0 ∨ 100 < q) :
    exec i s = .next (finish (.fail .invalidArgument) { s with opr := .instr i }) := by
  refine exec_accept_refused (hi ▸ ?_) hq
  rcases humArgument_cases h with ⟨harg, -⟩ | ⟨q, hq, h0, h100, -⟩
  · simp only [thresholdWrite, harg]
  · rcases hbad q hq with h | h <;> linarith

theorem routine_threshold {i : Instr} {cmd : Byte} {q : Rat} (hi : routine i = thresholdWrite cmd (some q)) (h0 : 0 ≤ q)
    (h100 : q ≤ 100) : routine i = writeRoutine cmd (combine .or 0x0000 (humidityToBits q)) := by
  simp only [hi, thresholdWrite, humArgument_some h0 h100, writeRoutine]

/-- The word of a threshold change is the floored count. -/
theorem thresholdWord_toNat {q : Rat} (h0 : 0 ≤ q) (h100 : q ≤ 100) :
    ((combine .or 0x0000 (humidityToBits q)).toNat : Int) = ⌊q * 16382 / 100⌋ := by
  rw [combine_or, BitVec.ofNat_eq_ofNat, BitVec.zero_or, humidityToBits_toNat_of_mem h0 h100, mul_div_assoc]

end Sys2Proof.Machine
end

section
/-! PROOFS. Acceptance (46_sequencer_steps.md R171) of every operation that a host can request, and the micro-steps of the
lifecycle operations (R172 to R174). -/

namespace Sys2Proof.Proofs

open Sys2Proof Sys2Proof.Machine

/-- Settles O24: the range test, then the mode test, in the order of the acceptance row. -/
theorem setaddrResult : Obligations.SetaddrResult := by
  unfold Obligations.SetaddrResult
  refine fun a s => ⟨rfl, fun hq => ?_⟩
  rw [exec_idle _ s hq]
  by_cases ha : 0x7F < a.toNat
  · simp [routine, (addrTooBig_iff a).mpr ha, ha, raise_eq]
  · have hfit : addrTooBig a = false := by simpa using mt (addrTooBig_iff a).mp ha
    rcases mode_cases s.mode with hm | hm
    · simp [routine, hfit, ha, hm, respond_eq, low7]
    · simp [routine, hfit, ha, hm, raise_eq]

/-- Settles O25, by the rule of each sequencer state; bit 7 is the decoder's output `cm`. -/
theorem enterMicroSteps : Obligations.EnterMicroSteps := by
  unfold Obligations.EnterMicroSteps
  refine fun s => ⟨fun hq => ?_, fun hq => ?_, fun hq => ?_⟩
  · rcases Bool.eq_false_or_eq_true s.addrSet with ha | ha
    · rw [exec_enter_set s hq ha, if_pos ha, enterBusy]
    · rw [exec_needAddress_unset rfl hq ha, if_neg (by simp [ha])]
  · rw [exec_startTx _ s hq, sendFrame_eq]
    rfl
  · rw [exec_startRx _ s hq]
    rcases stepStartRx_cases s with ⟨hcm, hstep⟩ | ⟨hcm, hstep⟩
    · have hset : (answer s 0).getLsbD 7 = true := hcm
      rw [hstep, if_pos hset]
    · have hclear : ¬(answer s 0).getLsbD 7 = true := Bool.eq_false_iff.mp hcm
      rw [hstep, if_neg hclear]

/-- Settles O26: both operations send the frame in `EXIT_TX`, and `TEARDOWN` ends the session as well. -/
theorem exitAndTeardownMicroSteps : Obligations.ExitAndTeardownMicroSteps := by
  unfold Obligations.ExitAndTeardownMicroSteps
  refine fun s => ⟨fun hq => ?_, fun hq => ?_, fun hq hm => ?_, fun hq hm => ⟨_, exec_teardown_normal s hq hm⟩, fun hq => ?_⟩
  · rcases Bool.eq_false_or_eq_true s.addrSet with ha | ha
    · rw [exec_needAddress_set rfl hq ha, if_pos ha, enterBusy]
    · rw [exec_needAddress_unset rfl hq ha, if_neg (by simp [ha])]
  · rw [exec_exitTx _ s hq, sendFrame_eq]
    rfl
  · rw [exec_teardown_inCommandMode s hq hm, enterBusy]
  · refine ⟨Config.freeAddr s.draws, ?_⟩
    rw [exec_exitTx _ s hq, sendFrame_eq]
    rfl

/-- Settles O30: `ENTER` keeps the address, so `EXIT` sends its frame, whichever way the status byte decided. -/
theorem enterThenExitLeavesNormal : Obligations.EnterThenExitLeavesNormal := by
  unfold Obligations.EnterThenExitLeavesNormal
  intro s hq ha
  obtain ⟨-, henter⟩ := enterWholeOperation
  obtain ⟨-, hexit⟩ := exitWholeOperation
  obtain ⟨t, hrun, hidle, -, -, hkept, -⟩ := henter s hq
  obtain ⟨u, hrun', -, -, -, -, -, -, hframe⟩ := hexit t hidle
  obtain ⟨-, -, hnormal, -⟩ := hframe (hkept.trans ha)
  exact ⟨t, u, hrun, hrun', hnormal⟩

/-- Settles O31, by the acceptance rules for the mode test. -/
theorem primitivesAreAccepted : Obligations.PrimitivesAreAccepted := by
  unfold Obligations.PrimitivesAreAccepted
  refine fun s cmd old new hq => ⟨fun hm i hi => ?_, fun hm => ⟨?_, ?_, ?_⟩⟩
  · simp only [List.mem_cons, List.not_mem_nil, or_false] at hi
    rcases hi with rfl | rfl | rfl <;> exact exec_accept_normal rfl hq hm
  · exact exec_accept_inCommandMode (k := beginRead cmd) rfl hq hm
  · exact exec_accept_inCommandMode (k := beginWrite cmd (combine .or old new)) rfl hq hm
  · exact exec_accept_inCommandMode (k := beginWrite cmd (combine .and old new)) rfl hq hm

/-- Settles O32: all five begin with a read. -/
theorem readAccessorsAreAccepted : Obligations.ReadAccessorsAreAccepted := by
  unfold Obligations.ReadAccessorsAreAccepted
  intro s hq p hp
  simp only [List.mem_cons, List.not_mem_nil, or_false] at hp
  rcases hp with rfl | rfl | rfl | rfl | rfl <;> exact exec_accept_read rfl hq

/-- Settles O33: a threshold change is refused for its operand or is the write of the floored count. -/
theorem thresholdChangesAreAccepted : Obligations.ThresholdChangesAreAccepted := by
  unfold Obligations.ThresholdChangesAreAccepted
  intro s h hq p hp
  have hi : routine p.1 = thresholdWrite p.2 h := by
    simp only [List.mem_cons, List.not_mem_nil, or_false] at hp
    rcases hp with rfl | rfl | rfl | rfl <;> rfl
  refine ⟨exec_threshold_refused hi hq, ?_⟩
  rintro q rfl h0 h100
  have haccept := congrArg Routine.accept (routine_threshold hi h0 h100)
  exact ⟨_, thresholdWord_toNat h0 h100, exec_accept_write haccept hq⟩

/-- Settles O34: a config change past its argument test begins with a read of customer-config. -/
theorem configChangesAreAccepted : Obligations.ConfigChangesAreAccepted := by
  unfold Obligations.ConfigChangesAreAccepted
  refine fun s a hq => ⟨fun ha => ?_, fun i hshape haddr => ?_⟩
  · rcases chgaddr_forms a with ⟨-, haccept, -⟩ | ⟨hfit, -⟩
    · exact exec_accept_refused haccept hq
    · exact absurd ha hfit
  · rcases registerOp_forms i (isRegisterOp_of_shape (.inr (.inr hshape))) with ⟨hbad, -⟩ |
        ⟨-, ⟨hread, -⟩ | ⟨hwrite, -⟩ | ⟨-, f, hroutine, -⟩⟩
    · obtain ⟨b, rfl, hb⟩ := eq_chgaddr_of_badArgument hshape hbad
      exact absurd (haddr b rfl) (by omega)
    · cases hshape.symm.trans hread
    · cases hshape.symm.trans hwrite
    · exact exec_accept_read (congrArg Routine.accept hroutine) hq

/-- Settles O35: the argument test comes first, and past it every register operation meets the mode test. -/
theorem registerOperationsAreRefusedInNormal : Obligations.RegisterOperationsAreRefusedInNormal := by
  unfold Obligations.RegisterOperationsAreRefusedInNormal
  intro i s hreg hq hm
  have hrefused {f : Failure} (h : exec i s = .next (finish (.fail f) { s with opr := .instr i })) :
      ∃ t, exec i s = .next t ∧ t.replies = s.replies ++ [.fail f] ∧ t.trace = s.trace ∧ t.seq = .idle ∧ t.busy = false ∧
        t.addr = s.addr ∧ t.addrSet = s.addrSet ∧ t.mode = s.mode :=
    ⟨_, h, rfl, rfl, rfl, rfl, rfl, rfl, rfl⟩
  rcases registerOp_accept i hreg with ⟨hbad, haccept⟩ | ⟨hgood, k, haccept⟩
  · rw [if_pos hbad]
    exact hrefused (exec_accept_refused haccept hq)
  · rw [if_neg (by simp [hgood])]
    exact hrefused (exec_accept_normal haccept hq hm)

/-- Settles O44: both end in the accepting step; the word of `H2B` is the clamped count. -/
theorem conversionOperations : Obligations.ConversionOperations := by
  unfold Obligations.ConversionOperations
  refine fun s hq => ⟨fun raw => ?_, fun h => ⟨humidityOperandToBits h, ?_, ?_, ?_⟩⟩
  · rw [← bitsToHumidity_eq]
    exact exec_idle _ s hq
  · exact exec_idle _ s hq
  · rintro rfl
    rfl
  · rintro q rfl
    exact humidityToBits_toNat q

/-- Settles O46: the exact quotient, and its value at the counts the rule lists. -/
theorem bitsToHumidityIsExact : Obligations.BitsToHumidityIsExact := by
  unfold Obligations.BitsToHumidityIsExact
  have value {c : Word} (n : Nat) (hc : c.toNat = n) : bitsToHumidity c = n * 100 / 16382 := by rw [bitsToHumidity_eq, hc]
  exact ⟨bitsToHumidity_eq, (value 0 rfl).trans (by norm_num), (value 8191 rfl).trans (by norm_num),
    (value 16382 rfl).trans (by norm_num), (value 1 rfl).trans (by norm_num), (value 16383 rfl).trans (by norm_num),
    (value 65535 rfl).trans (by norm_num)⟩

end Sys2Proof.Proofs
end

section
/-! SUPPORT. The two polls by the low bits of the status byte (41_register_transactions.md R100, 46_sequencer_steps.md R176,
R178), and single bits of a changed customer-config word (44_config_change.md R135, R136). -/

namespace Sys2Proof.Machine

/-! ### The status byte by its two low bits -/

theorem done_false_iff (b : Byte) : (statusDecode b).done = false ↔ b.extractLsb' 0 2 = 0#2 := by
  rw [statusDecode_done_eq_resp, bne_eq_false_iff_eq]
  rfl

/-- Code 2 is done without acknowledge. -/
theorem ack_false_of_code {b : Byte} (h : b.extractLsb' 0 2 = 2#2) :
    (statusDecode b).done = true ∧ (statusDecode b).ack = false := by
  have hcode : b.toNat % 4 = 2 := by rw [← statusDecode_resp_toNat]; exact congrArg BitVec.toNat h
  rw [statusDecode_done, statusDecode_ack]
  exact ⟨decide_eq_true (by omega), decide_eq_false (by omega)⟩

/-- A busy poll with reads left stays until the last of them. -/
theorem stepWrPoll_busy {s : State} (hb : (answer s 0).extractLsb' 0 2 = 0#2) (hleft : s.pcnt < s.pollLimit) :
    stepWrPoll s = .next (if s.pcnt + 1 = s.pollLimit then finish (.fail .timeout) (pollRead1 s) else pollRead1 s) := by
  have hnot := (done_false_iff _).mpr hb
  rcases stepWrPoll_cases s with ⟨-, hmore, hstep⟩ | ⟨-, hlast, hstep⟩ | ⟨hd, -⟩ | ⟨hd, -⟩
  · rw [hstep, if_neg (by omega)]
  · rw [hstep, if_pos (by omega)]
  · cases hnot.symm.trans hd
  · cases hnot.symm.trans hd

theorem stepRdPoll_busy {k : Word → State → Answer} {s : State} (hb : (answer s 0).extractLsb' 0 2 = 0#2)
    (hleft : s.pcnt < s.pollLimit) :
    stepRdPoll k s = .next (if s.pcnt + 1 = s.pollLimit then finish (.fail .timeout) (pollRead3 s) else pollRead3 s) := by
  have hnot := (done_false_iff _).mpr hb
  rcases stepRdPoll_cases k s with ⟨-, hmore, hstep⟩ | ⟨-, hlast, hstep⟩ | ⟨hd, -⟩ | ⟨hd, -⟩
  · rw [hstep, if_neg (by omega)]
  · rw [hstep, if_pos (by omega)]
  · cases hnot.symm.trans hd
  · cases hnot.symm.trans hd

/-- `BusRead` of the data word, most significant byte first (20_memory.md R47). -/
theorem readWord_eq (s : State) : readWord s = answer s 1 ++ answer s 2 := rfl

/-! ### Single bits of a changed word -/

theorem addrField_eq_append (a : Byte) : addrField a = 0#9 ++ a.extractLsb' 0 7 :=
  (BitVec.setWidth_eq_append (by omega)).trans rfl

/-- A constant of one bit sets that bit and no other. -/
theorem getLsbD_or_twoPow (v : Word) {k : Nat} (hk : k < 16) (j : Nat) :
    (v ||| BitVec.twoPow 16 k).getLsbD j = if j = k then true else v.getLsbD j := by
  rw [BitVec.getLsbD_or, BitVec.getLsbD_twoPow]
  split
  case isTrue h => simp [h, hk]
  case isFalse h => simp [Ne.symm h]

/-- The mask without one bit clears that bit and no other. -/
theorem getLsbD_and_not_twoPow (v : Word) {k : Nat} (hk : k < 16) (j : Nat) :
    (v &&& ~~~BitVec.twoPow 16 k).getLsbD j = if j = k then false else v.getLsbD j := by
  rw [BitVec.getLsbD_and, BitVec.getLsbD_not, BitVec.getLsbD_twoPow]
  split
  case isTrue h => simp [h, hk]
  case isFalse h =>
    rcases Nat.lt_or_ge j 16 with hj | hj
    · simp [Ne.symm h, hj]
    · simp [BitVec.getLsbD_of_ge v j hj]

/-- `CHGADDR` leaves the bits above the address field as they were. -/
theorem getLsbD_changedAddress (v : Word) (a : Byte) {k : Nat} (hk : 7 ≤ k) :
    (changedAddress v a).getLsbD k = v.getLsbD k := by
  have hmask : Config.M_ADDR_CLR = BitVec.allOnes 16 <<< 7 := by decide
  have hfield : (addrField a).getLsbD k = false := by
    rw [addrField, BitVec.getLsbD_setWidth, BitVec.getLsbD_of_ge _ _ hk, Bool.and_false]
  rw [changedAddress, combine_or, combine_and, BitVec.getLsbD_or, BitVec.getLsbD_and, hfield, Bool.or_false, hmask,
    BitVec.getLsbD_shiftLeft, BitVec.getLsbD_allOnes]
  rcases Nat.lt_or_ge k 16 with h16 | h16
  · simp [h16, show ¬k < 7 by omega, show k - 7 < 16 by omega]
  · simp [BitVec.getLsbD_of_ge v k h16]

/-- A config change that sets or clears bit `k`, after its acknowledged read. -/
theorem exec_cfgSet_bit {i : Instr} {b : Word} {s : State} {k : Nat} (hi : routine i = cfgSet b) (hk : k < 16)
    (hb : b = BitVec.twoPow 16 k) (hq : s.seq = .rdPoll) (hack : (statusDecode (answer s 0)).ack = true) :
    ∃ t, exec i s = .next t ∧ t.txw.getLsbD k = true ∧ ∀ j, j ≠ k → t.txw.getLsbD j = t.rxw.getLsbD j := by
  refine ⟨_, exec_change_acknowledged (f := (combine .or · b)) (fun v => by rw [hi]; rfl) hq hack, ?_, fun j hj => ?_⟩
  · rw [changeRead_txw, combine_or, hb, getLsbD_or_twoPow _ hk, if_pos rfl]
  · rw [changeRead_txw, changeRead_rxw, combine_or, hb, getLsbD_or_twoPow _ hk, if_neg hj]

theorem exec_cfgClear_bit {i : Instr} {m : Word} {s : State} {k : Nat} (hi : routine i = cfgClear m) (hk : k < 16)
    (hm : m = ~~~BitVec.twoPow 16 k) (hq : s.seq = .rdPoll) (hack : (statusDecode (answer s 0)).ack = true) :
    ∃ t, exec i s = .next t ∧ t.txw.getLsbD k = false ∧ ∀ j, j ≠ k → t.txw.getLsbD j = t.rxw.getLsbD j := by
  refine ⟨_, exec_change_acknowledged (f := (combine .and · m)) (fun v => by rw [hi]; rfl) hq hack, ?_, fun j hj => ?_⟩
  · rw [changeRead_txw, combine_and, hm, getLsbD_and_not_twoPow _ hk, if_pos rfl]
  · rw [changeRead_txw, changeRead_rxw, combine_and, hm, getLsbD_and_not_twoPow _ hk, if_neg hj]

end Sys2Proof.Machine
end

section
/-! PROOFS. The polls and the continuation after a read (46_sequencer_steps.md R176, R178, R179; 44_config_change.md R137). -/

namespace Sys2Proof.Proofs

open Sys2Proof Sys2Proof.Machine

/-- Settles O39: busy, done without acknowledge, and done with acknowledge. -/
theorem writePollStep : Obligations.WritePollStep := by
  unfold Obligations.WritePollStep
  intro i s hq hleft
  rw [exec_wrPoll i s hq]
  by_cases hbusy : (answer s 0).extractLsb' 0 2 = 0#2
  · rw [stepWrPoll_busy hbusy hleft, if_pos hbusy]
  · rw [if_neg hbusy]
    rcases stepWrPoll_cases s with ⟨hd, -⟩ | ⟨hd, -⟩ | ⟨-, hack, hstep⟩ | ⟨-, hack, hstep⟩
    · exact absurd ((done_false_iff _).mp hd) hbusy
    · exact absurd ((done_false_iff _).mp hd) hbusy
    · have hclear : (answer s 0).getLsbD 0 = false := hack
      rw [hstep, if_pos hclear]
    · have hset : ¬(answer s 0).getLsbD 0 = false := by rw [Bool.not_eq_false]; exact hack
      rw [hstep, if_neg hset]

/-- Settles O40: the codes 0 and 2 of the status byte. -/
theorem readPollUntilAcknowledged : Obligations.ReadPollUntilAcknowledged := by
  unfold Obligations.ReadPollUntilAcknowledged
  intro i s hq hleft
  rw [exec_rdPoll i s hq]
  refine ⟨fun hbusy => stepRdPoll_busy hbusy hleft, fun hcode => ?_⟩
  obtain ⟨hdone, hnack⟩ := ack_false_of_code hcode
  simp [stepRdPoll, hdone, hnack, raise_eq]

/-- Settles O41: each of the 17 continuations, on the word of the acknowledged response. -/
theorem continuationAfterRead : Obligations.ContinuationAfterRead := by
  unfold Obligations.ContinuationAfterRead
  intro s cmd a hq hack
  refine ⟨fun i hi => ?_, fun i hi => ?_, fun p hp => ?_⟩
  · simp only [List.mem_cons, List.not_mem_nil, or_false] at hi
    rcases hi with rfl | rfl <;> exact exec_rdPoll_acknowledged _ s hq hack
  · rw [← bitsToHumidity_eq]
    simp only [List.mem_cons, List.not_mem_nil, or_false] at hi
    rcases hi with rfl | rfl | rfl | rfl <;> exact exec_rdPoll_acknowledged _ s hq hack
  · rw [← addrField_eq_append] at hp
    simp only [List.mem_cons, List.not_mem_nil, or_false] at hp
    rcases hp with rfl | rfl | rfl | rfl | rfl | rfl | rfl | rfl | rfl | rfl | rfl <;>
      exact exec_rdPoll_acknowledged _ s hq hack

/-- Settles O42: the constants name one bit each, and the address field lies below bit 7. -/
theorem configChangesWriteTheirFieldOnly : Obligations.ConfigChangesWriteTheirFieldOnly := by
  unfold Obligations.ConfigChangesWriteTheirFieldOnly
  refine fun s a hq hack => ⟨?_, ?_⟩
  · simp only [List.forall_mem_cons]
    exact ⟨exec_cfgSet_bit rfl (by decide) (by decide) hq hack, exec_cfgClear_bit rfl (by decide) (by decide) hq hack,
      exec_cfgSet_bit rfl (by decide) (by decide) hq hack, exec_cfgClear_bit rfl (by decide) (by decide) hq hack,
      exec_cfgSet_bit rfl (by decide) (by decide) hq hack, exec_cfgClear_bit rfl (by decide) (by decide) hq hack,
      exec_cfgSet_bit rfl (by decide) (by decide) hq hack, exec_cfgClear_bit rfl (by decide) (by decide) hq hack,
      exec_cfgSet_bit rfl (by decide) (by decide) hq hack, exec_cfgClear_bit rfl (by decide) (by decide) hq hack, nofun⟩
  · refine ⟨_, exec_change_acknowledged (f := (changedAddress · a)) (fun _ => rfl) hq hack,
      cfgDecode_fAddr_changedAddress (readWord s) a, cfgDecode_fAlpol_changedAddress (readWord s) a, fun k hk => ?_⟩
    exact getLsbD_changedAddress (readWord s) a hk

end Sys2Proof.Proofs
end

section
/-! SUPPORT. What the micro-steps do not look at (10_state.md R27, R29; 30_encoding.md R68): a routine runs the same whatever
stands in `OPR` and `ST`, on the bus trace and in the answers to come; so two operations with one routine run alike, and the status bits
that no rule names have no influence. -/

namespace Sys2Proof.Machine

/-! ### The fields that a routine does not see -/

/-- The same answer with its next state changed. -/
def mapNext (g : State → State) : Answer → Answer
  | .next s => .next (g s)
  | .fault r => .fault r
  | .refused r => .refused r

theorem exists_next_of_mapNext_eq {g : State → State} {a : Answer} {t : State}
    (h : mapNext g a = mapNext g (.next t)) : ∃ t', a = .next t' ∧ g t' = g t := by
  cases a with
  | next t' => exact ⟨t', rfl, Host.Outcome.next.inj h⟩
  | fault r => cases h
  | refused r => cases h

/-- A change of the four fields that a routine does not see. -/
structure Cover where
  opr : Decoded → Decoded
  st : Byte → Byte
  trace : List BusEvent → List BusEvent
  answers : List Byte → List Byte

/-- The state with the four fields changed. -/
def Cover.on (g : Cover) (s : State) : State :=
  { s with opr := g.opr s.opr, st := g.st s.st, trace := g.trace s.trace, answers := g.answers s.answers }

theorem needCommandMode_cover (g : Cover) {k : State → Answer} (hk : ∀ s, k (g.on s) = mapNext g.on (k s)) (s : State) :
    needCommandMode k (g.on s) = mapNext g.on (needCommandMode k s) := by
  rcases mode_cases s.mode with hm | hm
  · rw [needCommandMode_normal k s hm, needCommandMode_normal k (g.on s) hm]
    rfl
  · rw [needCommandMode_inCommandMode k s hm, needCommandMode_inCommandMode k (g.on s) hm, hk]

theorem needAddress_cover (g : Cover) {k : State → Answer} (hk : ∀ s, k (g.on s) = mapNext g.on (k s)) (s : State) :
    needAddress k (g.on s) = mapNext g.on (needAddress k s) := by
  rcases Bool.eq_false_or_eq_true s.addrSet with ha | ha
  · rw [needAddress_set k s ha, needAddress_set k (g.on s) ha, hk]
  · rw [needAddress_unset k s ha, needAddress_unset k (g.on s) ha]
    rfl

theorem registerOp_accept_cover (g : Cover) {i : Instr} (hreg : i.isRegisterOp = true) (s : State) :
    (routine i).accept (g.on s) = mapNext g.on ((routine i).accept s) := by
  rcases registerOp_forms i hreg with ⟨-, haccept, -⟩ |
      ⟨-, ⟨-, cmd, result, hroutine, -⟩ | ⟨-, cmd, w, hroutine, -⟩ | ⟨-, f, hroutine, -⟩⟩
  · rw [haccept]
    rfl
  · rw [hroutine]
    exact needCommandMode_cover g (fun _ => rfl) s
  · rw [hroutine]
    exact needCommandMode_cover g (fun _ => rfl) s
  · rw [hroutine]
    exact needCommandMode_cover g (fun _ => rfl) s

theorem accept_cover (g : Cover) (i : Instr) (s : State) :
    (routine i).accept (g.on s) = mapNext g.on ((routine i).accept s) := by
  have hmode : (g.on s).mode = s.mode := rfl
  cases i with
  | setaddr a =>
    cases ha : addrTooBig a with
    | true => simp only [routine, ha, if_true]; rfl
    | false => rcases mode_cases s.mode with hm | hm <;> simp only [routine, ha, hmode, hm] <;> rfl
  | teardown => rcases mode_cases s.mode with hm | hm <;> simp only [routine, hmode, hm] <;> rfl
  | enter => exact needAddress_cover g (k := fun t => .next (enterBusy .startTx t)) (fun _ => rfl) s
  | exit => exact needAddress_cover g (k := fun t => .next (enterBusy .exitTx t)) (fun _ => rfl) s
  | b2h raw | h2b h => rfl
  | _ => exact registerOp_accept_cover g rfl s

theorem onRead_cover (g : Cover) (i : Instr) (v : Word) (s : State) :
    (routine i).onRead v (g.on s) = mapNext g.on ((routine i).onRead v s) := by
  cases i <;> rfl

theorem onExit_cover (g : Cover) (i : Instr) (s : State) : (routine i).onExit (g.on s) = g.on ((routine i).onExit s) := by
  cases i <;> rfl

theorem onRead_congr (g : Cover) (i : Instr) (v : Word) {s s' : State} (h : g.on s = g.on s') :
    mapNext g.on ((routine i).onRead v s) = mapNext g.on ((routine i).onRead v s') := by
  rw [← onRead_cover, ← onRead_cover, h]

theorem onExit_congr (g : Cover) (i : Instr) {s s' : State} (h : g.on s = g.on s') :
    g.on ((routine i).onExit s) = g.on ((routine i).onExit s') := by
  rw [← onExit_cover, ← onExit_cover, h]

/-! ### Two operations with one routine -/

/-- Another request in `OPR`, all else unchanged. -/
def relatch (o : Decoded) : Cover := ⟨fun _ => o, id, id, id⟩

/-- No micro-step past acceptance reads `OPR`. -/
theorem exec_relatch_busy (i : Instr) (o : Decoded) (s : State) (hq : s.seq ≠ .idle) :
    exec i ((relatch o).on s) = mapNext (relatch o).on (exec i s) := by
  have hanswer (k : Nat) : answer ((relatch o).on s) k = answer s k := rfl
  have hcount : ((relatch o).on s).pcnt = s.pcnt ∧ ((relatch o).on s).pollLimit = s.pollLimit := ⟨rfl, rfl⟩
  cases hs : s.seq with
  | idle => exact absurd hs hq
  | startTx => rw [exec_startTx i s hs, exec_startTx i ((relatch o).on s) hs]; rfl
  | startRx =>
    rw [exec_startRx i s hs, exec_startRx i ((relatch o).on s) hs]
    simp only [stepStartRx, hanswer]
    split <;> rfl
  | exitTx =>
    rw [exec_exitTx i s hs, exec_exitTx i ((relatch o).on s) hs]
    exact congrArg (fun u => Host.Outcome.next (finish (.ok .noValue) u))
      (onExit_cover (relatch o) i { sendFrame Config.CMD_EXIT 0x00 0x00 s with mode := .normal })
  | rdTx => rw [exec_rdTx i s hs, exec_rdTx i ((relatch o).on s) hs]; rfl
  | rdPoll =>
    rw [exec_rdPoll i s hs, exec_rdPoll i ((relatch o).on s) hs]
    simp only [stepRdPoll, hanswer, hcount]
    split_ifs
    · exact onRead_cover (relatch o) i (readWord s) { pollRead3 s with rxw := readWord s }
    all_goals rfl
  | wrTx => rw [exec_wrTx i s hs, exec_wrTx i ((relatch o).on s) hs]; rfl
  | wrPoll =>
    rw [exec_wrPoll i s hs, exec_wrPoll i ((relatch o).on s) hs]
    simp only [stepWrPoll, hanswer, hcount]
    split_ifs <;> rfl

/-- Past acceptance an operation is its routine. -/
theorem exec_eq_of_routine {i j : Instr} (h : routine i = routine j) {s : State} (hq : s.seq ≠ .idle) :
    exec j s = exec i s := by
  rw [exec_eq_microStep, exec_eq_microStep, h]
  cases hs : s.seq with
  | idle => exact absurd hs hq
  | _ => simp only [microStep, hs]

theorem exec_relatch {i j : Instr} (h : routine i = routine j) (s : State) :
    exec j ((relatch (.instr j)).on s) = mapNext (relatch (.instr j)).on (exec i s) := by
  by_cases hq : s.seq = .idle
  · rw [exec_idle i s hq, exec_idle j ((relatch (.instr j)).on s) hq, ← h]
    exact accept_cover (relatch (.instr j)) i { s with opr := .instr i }
  · rw [exec_relatch_busy j _ s hq, exec_eq_of_routine h hq]

theorem operate_relatch {i j : Instr} (h : routine i = routine j) (n : Nat) (s : State) :
    operate j n ((relatch (.instr j)).on s) = mapNext (relatch (.instr j)).on (operate i n s) := by
  induction n generalizing s with
  | zero => rfl
  | succ n ih =>
    simp only [operate, exec_relatch h]
    cases exec i s with
    | fault r => rfl
    | refused r => rfl
    | next t =>
      have hseq : ((relatch (.instr j)).on t).seq = t.seq := rfl
      simp only [mapNext, hseq]
      split
      · rfl
      · exact ih t

/-- From `IDLE` two operations with the same routine run alike but for the latches. -/
theorem operate_of_same_routine {i j : Instr} (h : routine i = routine j) {n : Nat} {s t : State} (hq : s.seq = .idle)
    (hrun : operate i n s = .next t) : ∃ t', operate j n s = .next t' ∧ t'.view = t.view := by
  cases n with
  | zero => exact ⟨s, rfl, congrArg State.view (Host.Outcome.next.inj hrun)⟩
  | succ n =>
    have hlatched : exec j s = exec j ((relatch (.instr j)).on s) :=
      (exec_idle j s hq).trans (exec_idle j ((relatch (.instr j)).on s) hq).symm
    refine ⟨(relatch (.instr j)).on t, ?_, rfl⟩
    calc operate j (n + 1) s
        = operate j (n + 1) ((relatch (.instr j)).on s) := by simp only [operate, hlatched]
      _ = mapNext (relatch (.instr j)).on (operate i (n + 1) s) := operate_relatch h (n + 1) s
      _ = .next ((relatch (.instr j)).on t) := by rw [hrun]; rfl

/-! ### The status bits that no rule names -/

/-- The latch `ST`, the recorded bus bytes and the bytes to come out of sight. -/
def blind : Cover := ⟨id, fun _ => 0, fun _ => [], fun _ => []⟩

theorem blind_on (s : State) : blind.on s = s.blindToStatus := rfl

/-- The device answers `b` next. -/
def answering (b : Byte) (rest : List Byte) (s : State) : State := { s with answers := b :: rest }

theorem statusDecode_eq_of_code {b b' : Byte} (h : b.extractLsb' 0 2 = b'.extractLsb' 0 2) :
    (statusDecode b').done = (statusDecode b).done ∧ (statusDecode b').ack = (statusDecode b).ack := by
  have hcode : b.toNat % 4 = b'.toNat % 4 := by
    rw [← statusDecode_resp_toNat, ← statusDecode_resp_toNat]
    exact congrArg BitVec.toNat h
  rw [statusDecode_done, statusDecode_done, statusDecode_ack, statusDecode_ack, hcode]
  exact ⟨rfl, decide_eq_decide.mpr (by omega)⟩

/-- The micro-step after a status byte, for two bytes that agree where its state looks. -/
theorem exec_answering_blind (i : Instr) (s : State) (b b' : Byte) (rest : List Byte)
    (hstart : s.seq = .startRx → b.getLsbD 7 = b'.getLsbD 7)
    (hpoll : inPoll s.seq = true → b.extractLsb' 0 2 = b'.extractLsb' 0 2) :
    mapNext blind.on (exec i (answering b' rest s)) = mapNext blind.on (exec i (answering b rest s)) := by
  have hnext (c : Byte) : answer (answering c rest s) 0 = c := rfl
  have hword : readWord (answering b' rest s) = readWord (answering b rest s) := rfl
  cases hs : s.seq with
  | idle =>
    rw [exec_idle i (answering b' rest s) hs, exec_idle i (answering b rest s) hs, ← accept_cover, ← accept_cover]
    rfl
  | startTx => rw [exec_startTx i (answering b' rest s) hs, exec_startTx i (answering b rest s) hs]; rfl
  | startRx =>
    have hcm : (statusDecode b').cm = (statusDecode b).cm := (hstart hs).symm
    rw [exec_startRx i (answering b' rest s) hs, exec_startRx i (answering b rest s) hs]
    simp only [stepStartRx, hnext, hcm]
    split <;> rfl
  | exitTx =>
    rw [exec_exitTx i (answering b' rest s) hs, exec_exitTx i (answering b rest s) hs]
    have hsame := onExit_congr blind i
      (s := { sendFrame Config.CMD_EXIT 0x00 0x00 (answering b' rest s) with mode := .normal })
      (s' := { sendFrame Config.CMD_EXIT 0x00 0x00 (answering b rest s) with mode := .normal }) rfl
    exact congrArg (fun u => Host.Outcome.next (finish (.ok .noValue) u)) hsame
  | rdTx => rw [exec_rdTx i (answering b' rest s) hs, exec_rdTx i (answering b rest s) hs]; rfl
  | rdPoll =>
    obtain ⟨hdone, hack⟩ := statusDecode_eq_of_code (hpoll (by rw [hs]; rfl))
    have hcount (c : Byte) : (answering c rest s).pcnt = s.pcnt ∧ (answering c rest s).pollLimit = s.pollLimit := ⟨rfl, rfl⟩
    rw [exec_rdPoll i (answering b' rest s) hs, exec_rdPoll i (answering b rest s) hs]
    simp only [stepRdPoll, hnext, hword, hdone, hack, hcount]
    split_ifs
    · exact onRead_congr blind i _ rfl
    all_goals rfl
  | wrTx => rw [exec_wrTx i (answering b' rest s) hs, exec_wrTx i (answering b rest s) hs]; rfl
  | wrPoll =>
    obtain ⟨hdone, hack⟩ := statusDecode_eq_of_code (hpoll (by rw [hs]; rfl))
    have hcount (c : Byte) : (answering c rest s).pcnt = s.pcnt ∧ (answering c rest s).pollLimit = s.pollLimit := ⟨rfl, rfl⟩
    rw [exec_wrPoll i (answering b' rest s) hs, exec_wrPoll i (answering b rest s) hs]
    simp only [stepWrPoll, hnext, hdone, hack, hcount]
    split_ifs <;> rfl

end Sys2Proof.Machine
end

section
/-! PROOFS. Noninterference of the unnamed status bits (30_encoding.md R68), and the derived operations (R81). -/

namespace Sys2Proof.Proofs

open Sys2Proof Sys2Proof.Machine

/-- Settles O23: the two micro-steps have the same answer up to what is blinded. -/
theorem onlyTheNamedStatusBitsMatter : Obligations.OnlyTheNamedStatusBitsMatter := by
  unfold Obligations.OnlyTheNamedStatusBitsMatter
  intro i s t b b' rest hstart hpoll hexec
  have hsame := exec_answering_blind i s b b' rest hstart hpoll
  have hexec' : exec i (answering b rest s) = .next t := hexec
  rw [hexec'] at hsame
  obtain ⟨t', hnext, hblind⟩ := exists_next_of_mapNext_eq hsame
  exact ⟨t', hnext, by rw [← blind_on, ← blind_on, hblind]⟩

/-- Settles O56: a derived operation has the routine of the primitive it stands for. -/
theorem derivedOperationsExpand : Obligations.DerivedOperationsExpand := by
  unfold Obligations.DerivedOperationsExpand
  refine fun s n t hq => ⟨fun hrun => operate_of_same_routine (i := .rdcfg) (j := .rdreg 0x1C) rfl hq hrun,
    fun q h0 h100 p hp hrun => ?_⟩
  refine operate_of_same_routine ?_ hq hrun
  simp only [List.mem_cons, List.not_mem_nil, or_false] at hp
  rcases hp with rfl | rfl | rfl | rfl <;> exact routine_threshold rfl h0 h100

end Sys2Proof.Proofs
end

section
/-! SUPPORT. Whole operations against the big-step rule (00_scope.md R13): runs of micro-steps and the pseudocode of the
operation rules kept side by side, equal in all but the latches and `SEQ`. -/

namespace Sys2Proof.Machine

/-! ### States that differ in the latches and `SEQ` alone -/

/-- The state without the latches and `SEQ`: what a micro-step in the middle of an operation shares with the pseudocode. -/
def State.bare (s : State) : State := { s.view with seq := .idle }

section
variable {s u : State}

theorem answer_of_bare (h : s.bare = u.bare) (k : Nat) : answer s k = answer u k :=
  show answer s.bare k = answer u.bare k by rw [h]

theorem pollLimit_of_bare (h : s.bare = u.bare) : s.pollLimit = u.pollLimit :=
  show s.bare.pollLimit = u.bare.pollLimit by rw [h]

theorem readWord_of_bare (h : s.bare = u.bare) : readWord s = readWord u :=
  show readWord s.bare = readWord u.bare by rw [h]

theorem bare_sendFrame (h : s.bare = u.bare) (b0 b1 b2 : Byte) :
    (sendFrame b0 b1 b2 s).bare = (sendFrame b0 b1 b2 u).bare :=
  show (sendFrame b0 b1 b2 s.bare).bare = (sendFrame b0 b1 b2 u.bare).bare by rw [h]

theorem bare_pollRead1 (h : s.bare = u.bare) : (pollRead1 s).bare = (busRead1 u).bare :=
  show (busRead1 s.bare).bare = (busRead1 u.bare).bare by rw [h]

theorem bare_pollRead3 (h : s.bare = u.bare) : (pollRead3 s).bare = (busRead3 u).bare :=
  show (busRead3 s.bare).bare = (busRead3 u.bare).bare by rw [h]

theorem view_finish (h : s.bare = u.bare) (r : Reply) : (finish r s).view = (finish r u).view :=
  show (finish r s.bare).view = (finish r u.bare).view by rw [h]

end

/-! ### Completed runs -/

/-- From `s` operation `i` comes to its response within `n` micro-steps and leaves `r`, up to the latches. -/
def Completes (i : Instr) (n : Nat) (s r : State) : Prop :=
  ∃ m t, m < n ∧ operate i (m + 1) s = .next t ∧ t.seq = .idle ∧ t.view = r.view

theorem Completes.mono {i : Instr} {n n' : Nat} {s r : State} (h : Completes i n s r) (hn : n ≤ n') : Completes i n' s r := by
  obtain ⟨m, t, hm, hrun⟩ := h
  exact ⟨m, t, hm.trans_le hn, hrun⟩

theorem Completes.of_end {i : Instr} {n : Nat} {s t r : State} (hn : 1 ≤ n) (h : exec i s = .next t) (hq : t.seq = .idle)
    (hr : t.view = r.view) : Completes i n s r :=
  ⟨0, t, hn, (operate_one i s).trans h, hq, hr⟩

theorem Completes.of_step {i : Instr} {n : Nat} {s t r : State} (h : exec i s = .next t) (hq : t.seq ≠ .idle)
    (hc : Completes i n t r) : Completes i (n + 1) s r := by
  obtain ⟨m, t', hm, hrun, hend⟩ := hc
  exact ⟨m + 1, t', by omega, (operate_succ_of_busy (m + 1) h hq).trans hrun, hend⟩

/-- An operation that ends with reply `r` in a state that agrees with the pseudocode's. -/
theorem Completes.of_finish {i : Instr} {n : Nat} {s t u : State} {r : Reply} (hn : 1 ≤ n)
    (h : exec i s = .next (finish r t)) (hb : t.bare = u.bare) : Completes i n s (finish r u) :=
  .of_end hn h rfl (view_finish hb r)

/-! ### The write transaction -/

/-- The response to a write poll (41_register_transactions.md R103). -/
def endWrite : Option Byte × State → State
  | (none, t) => finish (.fail .timeout) t
  | (some r0, t) => if (statusDecode r0).ack then finish (.ok .noValue) t else finish (.fail .deviceNack) t

theorem writeAndRespond_eq (cmd : Byte) (w : Word) (s : State) :
    writeAndRespond cmd w s = endWrite (poll1 s.pollLimit (sendFrame cmd (hi8 w) (lo8 w) s)) := by
  rw [writeAndRespond, regWrite]
  rcases poll1 s.pollLimit (sendFrame cmd (hi8 w) (lo8 w) s) with ⟨_ | r0, t⟩
  · rfl
  · cases hack : (statusDecode r0).ack <;> simp [endWrite, hack]

/-- The read that shows the device done ends a write poll. -/
theorem completes_wrPoll_done {i : Instr} {n : Nat} {s u : State} (hn : 1 ≤ n) (hq : s.seq = .wrPoll) (hb : s.bare = u.bare)
    (hd : (statusDecode (answer s 0)).done = true) : Completes i n s (endWrite (some (answer u 0), busRead1 u)) := by
  rw [← answer_of_bare hb, endWrite]
  rcases stepWrPoll_cases s with ⟨hbusy, -⟩ | ⟨hbusy, -⟩ | ⟨-, hack, hstep⟩ | ⟨-, hack, hstep⟩
  · cases hbusy.symm.trans hd
  · cases hbusy.symm.trans hd
  · rw [if_neg (by simp [hack])]
    exact .of_finish hn ((exec_wrPoll i s hq).trans hstep) (bare_pollRead1 hb)
  · rw [if_pos hack]
    exact .of_finish hn ((exec_wrPoll i s hq).trans hstep) (bare_pollRead1 hb)

/-- A write poll with `k` reads left is `Poll(1)` with as many. -/
theorem completes_wrPoll (i : Instr) (k : Nat) (s u : State) (hq : s.seq = .wrPoll) (hb : s.bare = u.bare)
    (hleft : s.pcnt + k = s.pollLimit) (hk : 1 ≤ k) : Completes i k s (endWrite (poll1 k u)) := by
  induction k generalizing s u with
  | zero => omega
  | succ k ih =>
    rw [poll1, ← answer_of_bare hb]
    split
    · next hd => exact answer_of_bare hb 0 ▸ completes_wrPoll_done hk hq hb hd
    · next hd =>
      rcases stepWrPoll_cases s with ⟨-, hmore, hstep⟩ | ⟨-, hlast, hstep⟩ | ⟨hd', -⟩ | ⟨hd', -⟩
      · have hrest : (pollRead1 s).pcnt + k = (pollRead1 s).pollLimit := by
          rw [pollRead1_pcnt, pollRead1_pollLimit]
          omega
        exact .of_step ((exec_wrPoll i s hq).trans hstep) (by simp [hq])
          (ih (pollRead1 s) (busRead1 u) hq (bare_pollRead1 hb) hrest (by omega))
      · obtain rfl : k = 0 := by omega
        exact .of_finish hk ((exec_wrPoll i s hq).trans hstep) (bare_pollRead1 hb)
      · exact absurd hd' hd
      · exact absurd hd' hd

theorem completes_wrTx {i : Instr} {s u : State} (hq : s.seq = .wrTx) (hb : s.bare = u.bare) (hl : 1 ≤ s.pollLimit) :
    Completes i (s.pollLimit + 1) s (writeAndRespond s.cmd s.txw u) := by
  rw [writeAndRespond_eq, ← pollLimit_of_bare hb]
  exact .of_step (exec_wrTx i s hq) nofun
    (completes_wrPoll i s.pollLimit _ _ rfl (bare_sendFrame hb _ _ _) (Nat.zero_add _) hl)

/-! ### The read transaction -/

/-- What follows a read poll (41_register_transactions.md R102): `cont` with the word of an acknowledged response. -/
def endRead (cont : Word → State → State) : Option (Byte × Word) × State → State
  | (none, t) => finish (.fail .timeout) t
  | (some (r0, v), t) => if (statusDecode r0).ack then cont v t else finish (.fail .deviceNack) t

theorem readAndRespond_eq (cmd : Byte) (result : Word → Result) :
    readAndRespond cmd result = inCommandModeOnly fun s =>
      endRead (fun v => finish (.ok (result v))) (poll3 s.pollLimit (sendFrame cmd 0x00 0x00 s)) := by
  refine congrArg inCommandModeOnly (funext fun s => ?_)
  rw [regRead]
  rcases poll3 s.pollLimit (sendFrame cmd 0x00 0x00 s) with ⟨_ | ⟨r0, v⟩, t⟩
  · rfl
  · cases hack : (statusDecode r0).ack <;> simp [endRead, hack]

theorem readModifyWrite_eq (f : Word → Word) :
    readModifyWrite f = inCommandModeOnly fun s =>
      endRead (fun v => writeAndRespond Config.CMD_WR_CFG (f v))
        (poll3 s.pollLimit (sendFrame Config.CMD_RD_CFG 0x00 0x00 s)) := by
  refine congrArg inCommandModeOnly (funext fun s => ?_)
  rw [regRead]
  rcases poll3 s.pollLimit (sendFrame Config.CMD_RD_CFG 0x00 0x00 s) with ⟨_ | ⟨r0, v⟩, t⟩
  · rfl
  · cases hack : (statusDecode r0).ack <;> simp [endRead, hack]

/-- Operation `i` goes on from an acknowledged read as `cont` says, within `n` micro-steps after the read, for a
`POLL_LIMIT` of `l`. -/
def Continues (i : Instr) (l n : Nat) (cont : Word → State → State) : Prop :=
  ∀ s u : State, s.seq = .rdPoll → s.pollLimit = l → (statusDecode (answer s 0)).ack = true → s.bare = u.bare →
    Completes i (n + 1) s (cont (readWord u) (busRead3 u))

section
variable {i : Instr} {l n : Nat} {cont : Word → State → State} (hcont : Continues i l n cont)
include hcont

theorem completes_rdPoll_done {m : Nat} {s u : State} (hm : n + 1 ≤ m) (hq : s.seq = .rdPoll) (hl : s.pollLimit = l)
    (hb : s.bare = u.bare) (hd : (statusDecode (answer s 0)).done = true) :
    Completes i m s (endRead cont (some (answer u 0, readWord u), busRead3 u)) := by
  rw [← answer_of_bare hb, endRead]
  split
  · next hack => exact (hcont s u hq hl hack hb).mono hm
  · next hack =>
    rcases stepRdPoll_cases (routine i).onRead s with ⟨hbusy, -⟩ | ⟨hbusy, -⟩ | ⟨-, -, hstep⟩ | ⟨-, hack', -⟩
    · cases hbusy.symm.trans hd
    · cases hbusy.symm.trans hd
    · exact .of_finish (by omega) ((exec_rdPoll i s hq).trans hstep) (bare_pollRead3 hb)
    · exact absurd hack' hack

/-- A read poll with `k` reads left is `Poll(3)` with as many, followed by the continuation. -/
theorem completes_rdPoll (k : Nat) (s u : State) (hq : s.seq = .rdPoll) (hl : s.pollLimit = l) (hb : s.bare = u.bare)
    (hleft : s.pcnt + k = l) (hk : 1 ≤ k) : Completes i (n + k) s (endRead cont (poll3 k u)) := by
  induction k generalizing s u with
  | zero => omega
  | succ k ih =>
    rw [poll3, ← answer_of_bare hb]
    split
    · next hd => exact answer_of_bare hb 0 ▸ completes_rdPoll_done hcont (by omega) hq hl hb hd
    · next hd =>
      rcases stepRdPoll_cases (routine i).onRead s with ⟨-, hmore, hstep⟩ | ⟨-, hlast, hstep⟩ | ⟨hd', -⟩ | ⟨hd', -⟩
      · have hrest : (pollRead3 s).pcnt + k = l := by
          rw [pollRead3_pcnt]
          omega
        exact .of_step ((exec_rdPoll i s hq).trans hstep) (by simp [hq])
          (ih (pollRead3 s) (busRead3 u) hq hl (bare_pollRead3 hb) hrest (by omega))
      · obtain rfl : k = 0 := by omega
        exact .of_finish (by omega) ((exec_rdPoll i s hq).trans hstep) (bare_pollRead3 hb)
      · exact absurd hd' hd
      · exact absurd hd' hd

theorem completes_rdTx {s u : State} (hq : s.seq = .rdTx) (hl : s.pollLimit = l) (hpos : 1 ≤ l) (hb : s.bare = u.bare) :
    Completes i (n + l + 1) s (endRead cont (poll3 u.pollLimit (sendFrame s.cmd 0x00 0x00 u))) := by
  rw [← pollLimit_of_bare hb, hl]
  exact .of_step (exec_rdTx i s hq) nofun
    (completes_rdPoll hcont l _ _ rfl hl (bare_sendFrame hb _ _ _) (Nat.zero_add _) hpos)

end

/-! ### Acceptance of a register operation -/

theorem completes_register {i : Instr} {k : State → Answer} {c : State → State} {n : Nat} {s : State}
    (haccept : (routine i).accept = needCommandMode k) (hq : s.seq = .idle) (hn : 1 ≤ n)
    (hgo : s.mode = .inCommandMode → Completes i n s (c (setBusy s))) : Completes i n s (inCommandModeOnly c s) := by
  rcases mode_cases s.mode with hm | hm
  · simp only [inCommandModeOnly, hm]
    exact .of_finish hn (exec_accept_normal haccept hq hm) rfl
  · simp only [inCommandModeOnly, hm]
    exact hgo hm

theorem completes_reads {i : Instr} {cmd : Byte} {cont : Word → State → State} {n : Nat} {s : State}
    (haccept : (routine i).accept = needCommandMode (beginRead cmd)) (hcont : Continues i s.pollLimit n cont)
    (hq : s.seq = .idle) (hl : 1 ≤ s.pollLimit) :
    Completes i (n + s.pollLimit + 2) s (inCommandModeOnly
      (fun t => endRead cont (poll3 t.pollLimit (sendFrame cmd 0x00 0x00 t))) s) := by
  refine completes_register haccept hq (by omega) fun hm => ?_
  have hexec : exec i s = .next (enterBusy .rdTx { s with opr := .instr i, cmd := cmd }) :=
    exec_accept_inCommandMode haccept hq hm
  exact .of_step hexec nofun (completes_rdTx hcont rfl rfl hl rfl)

theorem completes_of_reads {i : Instr} {cmd : Byte} {result : Word → Result} (h : Reads i cmd result) {s : State}
    (hq : s.seq = .idle) (hl : 1 ≤ s.pollLimit) : Completes i (s.pollLimit + 2) s (bigStep i s) := by
  obtain ⟨hroutine, hbig⟩ := h
  have hcont : Continues i s.pollLimit 0 fun v => finish (.ok (result v)) := fun t u hqt _ hack hb => by
    have hexec := exec_rdPoll_acknowledged i t hqt hack
    rw [hroutine, readWord_of_bare hb] at hexec
    exact .of_finish (by omega) hexec (bare_pollRead3 hb)
  rw [hbig, readAndRespond_eq]
  exact (completes_reads (congrArg Routine.accept hroutine) hcont hq hl).mono (by omega)

theorem completes_of_changes {i : Instr} {f : Word → Word} (h : Changes i f) {s : State} (hq : s.seq = .idle)
    (hl : 1 ≤ s.pollLimit) : Completes i (2 * s.pollLimit + 3) s (bigStep i s) := by
  obtain ⟨hroutine, hbig⟩ := h
  have hcont : Continues i s.pollLimit (s.pollLimit + 1) fun v => writeAndRespond Config.CMD_WR_CFG (f v) :=
      fun t u hqt hlt hack hb => by
    have hexec := exec_change_acknowledged (f := f) (fun v => by rw [hroutine]; rfl) hqt hack
    refine .of_step hexec nofun ?_
    rw [← readWord_of_bare hb, ← hlt]
    exact completes_wrTx (s := changeRead (f (readWord t)) t) rfl (bare_pollRead3 hb) (hlt ▸ hl)
  rw [hbig, readModifyWrite_eq]
  exact (completes_reads (congrArg Routine.accept hroutine) hcont hq hl).mono (by omega)

theorem completes_of_writes {i : Instr} {cmd : Byte} {w : Word} (h : Writes i cmd w) {s : State} (hq : s.seq = .idle)
    (hl : 1 ≤ s.pollLimit) : Completes i (s.pollLimit + 2) s (bigStep i s) := by
  obtain ⟨hroutine, hbig⟩ := h
  have haccept : (routine i).accept = needCommandMode (beginWrite cmd w) := congrArg Routine.accept hroutine
  rw [hbig]
  refine completes_register haccept hq (by omega) fun hm => ?_
  have hexec : exec i s = .next (enterBusy .wrTx { s with opr := .instr i, cmd := cmd, txw := w }) :=
    exec_accept_inCommandMode haccept hq hm
  refine .of_step hexec nofun ?_
  exact completes_wrTx (s := enterBusy .wrTx { s with opr := .instr i, cmd := cmd, txw := w }) rfl rfl hl

theorem completes_registerOp {i : Instr} (hreg : i.isRegisterOp = true) {s : State} (hq : s.seq = .idle)
    (hl : 1 ≤ s.pollLimit) : Completes i (3 + 2 * s.pollLimit) s (bigStep i s) := by
  rcases registerOp_forms i hreg with ⟨-, haccept, hbig⟩ |
      ⟨-, ⟨-, cmd, result, h⟩ | ⟨-, cmd, w, h⟩ | ⟨-, f, h⟩⟩
  · rw [hbig]
    exact .of_finish (by omega) (exec_accept_refused haccept hq) rfl
  · exact (completes_of_reads h hq hl).mono (by omega)
  · exact (completes_of_writes h hq hl).mono (by omega)
  · exact (completes_of_changes h hq hl).mono (by omega)

/-! ### The lifecycle operations -/

theorem completes_setaddr (a : Byte) {s : State} (hq : s.seq = .idle) :
    Completes (.setaddr a) 1 s (bigStep (.setaddr a) s) := by
  obtain ⟨-, hresult⟩ := Proofs.setaddrResult a s
  have hexec := hresult hq
  change Completes _ 1 s (bigSetaddr a s)
  rw [bigSetaddr]
  by_cases ha : 0x7F < a.toNat
  · rw [if_pos ha] at hexec
    rw [if_pos ((addrTooBig_iff a).mpr ha)]
    exact .of_finish le_rfl hexec rfl
  · rw [if_neg ha] at hexec
    rw [if_neg (mt (addrTooBig_iff a).mp ha)]
    split at hexec
    · next hm => rw [if_pos hm]; exact .of_finish le_rfl hexec rfl
    · next hm => rw [if_neg hm]; exact .of_finish le_rfl hexec rfl

theorem completes_enter {s : State} (hq : s.seq = .idle) : Completes .enter 3 s (bigStep .enter s) := by
  change Completes _ 3 s (bigEnter s)
  rw [bigEnter]
  split
  · next ha => exact .of_finish (by omega) (exec_needAddress_unset rfl hq ha) rfl
  · next ha =>
    refine .of_step (exec_enter_set s hq (by simpa using ha)) nofun
      (.of_step (t := startSent s) (exec_startTx .enter _ rfl) nofun ?_)
    have hexec := exec_startRx .enter (startSent s) rfl
    rcases stepStartRx_cases (startSent s) with ⟨hcm, hstep⟩ | ⟨hcm, hstep⟩
    · have hset : (statusDecode (answer (sendFrame Config.CMD_START 0x00 0x00 (setBusy s)) 0)).cm = true := hcm
      rw [if_pos hset]
      exact .of_finish le_rfl (hexec.trans hstep) rfl
    · have hclear : ¬(statusDecode (answer (sendFrame Config.CMD_START 0x00 0x00 (setBusy s)) 0)).cm = true :=
        Bool.eq_false_iff.mp hcm
      rw [if_neg hclear]
      exact .of_finish le_rfl (hexec.trans hstep) rfl

theorem completes_exit {s : State} (hq : s.seq = .idle) : Completes .exit 2 s (bigStep .exit s) := by
  change Completes _ 2 s (bigExit s)
  rw [bigExit]
  split
  · next ha => exact .of_finish (by omega) (exec_needAddress_unset rfl hq ha) rfl
  · next ha =>
    refine .of_step (exec_needAddress_set rfl hq (by simpa using ha)) nofun ?_
    exact .of_finish le_rfl (exec_exitTx .exit _ rfl) rfl

theorem completes_teardown {s : State} (hq : s.seq = .idle) : Completes .teardown 2 s (bigStep .teardown s) := by
  change Completes _ 2 s (bigTeardown s)
  rcases mode_cases s.mode with hm | hm
  · simp only [bigTeardown, hm]
    exact .of_finish (by omega) (exec_teardown_normal s hq hm) rfl
  · simp only [bigTeardown, hm]
    refine .of_step (exec_teardown_inCommandMode s hq hm) nofun ?_
    exact .of_finish le_rfl (exec_exitTx .teardown _ rfl) rfl

/-- The big-step rule of every operation is met by its micro-steps. -/
theorem completes (i : Instr) {s : State} (hq : s.seq = .idle) (hl : 1 ≤ s.pollLimit) :
    Completes i (3 + 2 * s.pollLimit) s (bigStep i s) := by
  cases i with
  | setaddr a => exact (completes_setaddr a hq).mono (by omega)
  | enter => exact (completes_enter hq).mono (by omega)
  | exit => exact (completes_exit hq).mono (by omega)
  | teardown => exact (completes_teardown hq).mono (by omega)
  | b2h raw | h2b h => exact .of_finish (by omega) (exec_idle _ s hq) rfl
  | _ => exact completes_registerOp rfl hq hl

end Sys2Proof.Machine
end

section
/-! SUPPORT. Runs of the machine while it answers one request (60_exceptions.md R197, 46_sequencer_steps.md R181), and the bus
events that an operation still has to come (R180). -/

namespace Sys2Proof.Machine

/-! ### The machine runs the operation in `OPR` -/

/-- `OPR` is written at acceptance and held until the response (10_state.md R27). -/
theorem MicroStep.opr {i : Instr} {s t : State} (h : MicroStep i s t) :
    t.opr = .instr i ∨ (s.seq ≠ .idle ∧ t.opr = s.opr) := by
  cases h with
  | refused | addressSet | sessionEnded | humidityGiven | wordGiven | accepted => exact .inl rfl
  | startSent hq | entered hq | notEntered hq | exitSent hq | tornDown hq | readSent hq | readBusy hq | readFailed _ hq
  | readAnswered _ hq | readContinued _ hq | writeSent hq | writeBusy hq | writeFailed _ hq | writeDone hq =>
    exact .inr ⟨by simp [hq], rfl⟩

theorem core_run_succ {s t : State} (h : step s = .next t) (n : Nat) :
    Sys2Proof.core.run (n + 1) s = Sys2Proof.core.run n t := by
  have hcore : Sys2Proof.core.step s = .next t := h
  simp only [Host.Core.run, hcore]

/-- The machine takes the micro-steps of the operation it is running, as long as the host presents a request or nothing:
here `s'` is the state whose micro-step the next step from `s` is. -/
theorem core_run_of_operate {i : Instr} (m : Nat) (s s' t : State) (hstep : step s = exec i s')
    (hopr : s'.seq ≠ .idle → s'.opr = .instr i) (hreset : s'.host.head? ≠ some .reset)
    (hquiet : s'.host.head? ≠ some .quiet) (hrun : operate i (m + 1) s' = .next t) :
    ∃ n, n ≤ m + 1 ∧ Sys2Proof.core.run n s = .next t ∧ t.host = s'.host := by
  induction m generalizing s s' with
  | zero =>
    rw [Nat.zero_add, operate_one] at hrun
    obtain ⟨-, hhost, -⟩ := (MicroStep.of_exec hrun).inputs
    exact ⟨1, le_rfl, core_run_succ (hstep.trans hrun) 0, hhost⟩
  | succ m ih =>
    cases hexec : exec i s' with
    | fault r => simp [operate, hexec] at hrun
    | refused r => simp [operate, hexec] at hrun
    | next v =>
      have hmicro := MicroStep.of_exec hexec
      obtain ⟨-, hhost, -⟩ := hmicro.inputs
      by_cases hv : v.seq = .idle
      · cases (operate_succ_of_idle _ hexec hv).symm.trans hrun
        exact ⟨1, by omega, core_run_succ (hstep.trans hexec) 0, hhost⟩
      · have hheld : v.opr = .instr i := hmicro.opr.elim id fun ⟨hbusy, hkept⟩ => hkept.trans (hopr hbusy)
        rw [← hhost] at hreset hquiet
        obtain ⟨-, hother⟩ := turn_busy v hv hreset
        obtain ⟨n, hn, hgo, hlast⟩ := ih v v (step_resume (hother hquiet) hheld) (fun _ => hheld) hreset hquiet
          ((operate_succ_of_busy _ hexec hv).symm.trans hrun)
        exact ⟨n + 1, by omega, (core_run_succ (hstep.trans hexec) n).trans hgo, hlast.trans hhost⟩

/-! ### Bus events still to come -/

/-- The most bus events operation `i` can still cause from a state of its own past acceptance. -/
def eventsLeft (i : Instr) (s : State) : Nat :=
  let after := if i.shape = .change then 1 + s.pollLimit else 0
  match s.seq with
  | .idle => 0
  | .startTx => 2
  | .startRx | .exitTx => 1
  | .rdTx => 1 + s.pollLimit + after
  | .rdPoll => s.pollLimit - s.pcnt + after
  | .wrTx => 1 + s.pollLimit
  | .wrPoll => s.pollLimit - s.pcnt

/-- A poll in progress has reads left (46_sequencer_steps.md R176, R178). -/
def PollLeft (s : State) : Prop := 1 ≤ s.pollLimit ∧ (inPoll s.seq = true → s.pcnt < s.pollLimit)

/-- Each micro-step past acceptance pays for its event. -/
theorem MicroStep.eventsLeft_le {i : Instr} {s t : State} (h : MicroStep i s t) (hq : s.seq ≠ .idle) (hp : PollLeft s) :
    PollLeft t ∧ t.trace.length + eventsLeft i t ≤ s.trace.length + eventsLeft i s := by
  obtain ⟨hl, hleft⟩ := hp
  have poll {q : Seq} (hs : s.seq = q) (hin : inPoll q = true) : s.pcnt < s.pollLimit := hleft (hs ▸ hin)
  cases h with
  | refused _ hs | addressSet _ hs | sessionEnded hs | humidityGiven _ hs | wordGiven _ hs | accepted _ _ _ hs =>
    exact absurd hs hq
  | startSent hs => exact ⟨⟨hl, nofun⟩, by simp [eventsLeft, hs]⟩
  | entered hs | notEntered hs | exitSent hs | tornDown hs => exact ⟨⟨hl, nofun⟩, by simp [eventsLeft, hs]⟩
  | readSent hs => exact ⟨⟨hl, fun _ => hl⟩, by simp [eventsLeft, hs]; omega⟩
  | readBusy hs hmore =>
    have := poll hs rfl
    exact ⟨⟨hl, fun _ => hmore⟩, by simp [eventsLeft, hs]; omega⟩
  | readFailed _ hs | readAnswered _ hs =>
    have := poll hs rfl
    exact ⟨⟨hl, nofun⟩, by simp [eventsLeft, hs]; omega⟩
  | readContinued w hs hshape =>
    have := poll hs rfl
    exact ⟨⟨hl, nofun⟩, by simp [eventsLeft, changeRead, hs, hshape]; omega⟩
  | writeSent hs => exact ⟨⟨hl, fun _ => hl⟩, by simp [eventsLeft, hs]; omega⟩
  | writeBusy hs hmore =>
    have := poll hs rfl
    exact ⟨⟨hl, fun _ => hmore⟩, by simp [eventsLeft, hs]; omega⟩
  | writeFailed _ hs | writeDone hs =>
    have := poll hs rfl
    exact ⟨⟨hl, nofun⟩, by simp [eventsLeft, hs]; omega⟩

/-- A run past acceptance causes no more events than were left at its start. -/
theorem operate_events {i : Instr} (n : Nat) {s t : State} (hq : s.seq ≠ .idle) (hp : PollLeft s)
    (h : operate i n s = .next t) : t.trace.length ≤ s.trace.length + eventsLeft i s := by
  induction n generalizing s with
  | zero => cases h; omega
  | succ n ih =>
    cases hexec : exec i s with
    | fault r => simp [operate, hexec] at h
    | refused r => simp [operate, hexec] at h
    | next u =>
      obtain ⟨hpu, hpay⟩ := (MicroStep.of_exec hexec).eventsLeft_le hq hp
      by_cases hu : u.seq = .idle
      · cases (operate_succ_of_idle n hexec hu).symm.trans h
        omega
      · have := ih hu hpu ((operate_succ_of_busy n hexec hu).symm.trans h)
        omega

/-! ### Acceptance in the table of bus events -/

/-- An operation of the first row of 46_sequencer_steps.md R180 ends in the accepting step. -/
theorem exec_silent {i : Instr} {s : State} (hq : s.seq = .idle) (hs : i.isSilent s = true) :
    ∃ r u, exec i s = .next (finish r u) := by
  by_cases hreg : i.isRegisterOp = true
  · have hmode (hgood : i.badArgument = false) : s.mode = .normal := by
      cases hshape : i.shape <;> simp_all [Instr.isSilent, Instr.isRegisterOp]
    rcases registerOp_accept i hreg with ⟨-, haccept⟩ | ⟨hgood, k, haccept⟩
    · exact ⟨_, _, exec_accept_refused haccept hq⟩
    · exact ⟨_, _, exec_accept_normal haccept hq (hmode hgood)⟩
  · cases i with
    | setaddr a =>
      obtain ⟨-, hresult⟩ := Proofs.setaddrResult a s
      rw [hresult hq]
      split_ifs <;> exact ⟨_, _, rfl⟩
    | b2h raw | h2b h => exact ⟨_, _, exec_idle _ s hq⟩
    | enter => exact ⟨_, _, exec_needAddress_unset rfl hq (by simpa [Instr.isSilent, Instr.shape] using hs)⟩
    | exit => exact ⟨_, _, exec_needAddress_unset rfl hq (by simpa [Instr.isSilent, Instr.shape] using hs)⟩
    | teardown => exact ⟨_, _, exec_teardown_normal s hq (by simpa [Instr.isSilent, Instr.shape] using hs)⟩
    | _ => exact absurd rfl hreg

/-- What an accepted operation has left is what its row allows. -/
theorem eventsLeft_accepted {i : Instr} {s u : State} {q : Seq} (hadm : i.admits q = true) (hpoll : inPoll q = false)
    (hu : u.seq = q) (hl : u.pollLimit = s.pollLimit) (hs : i.isSilent s = false) : eventsLeft i u ≤ i.mostBusEvents s := by
  cases q with
  | idle => simp [eventsLeft, hu]
  | startTx => simp [eventsLeft, hu, Instr.mostBusEvents, hs, shape_of_admits_start (.inl hadm)]
  | startRx => simp [eventsLeft, hu, Instr.mostBusEvents, hs, shape_of_admits_start (.inr hadm)]
  | exitTx => simp [eventsLeft, hu, Instr.mostBusEvents, hs, shape_of_admits_exit hadm]
  | rdTx =>
    rcases shape_of_admits_read (.inl hadm) with hshape | hshape <;> simp [eventsLeft, hu, hl, Instr.mostBusEvents, hs, hshape]
    omega
  | wrTx =>
    rcases shape_of_admits_write (.inl hadm) with hshape | hshape <;> simp [eventsLeft, hu, hl, Instr.mostBusEvents, hs, hshape]
    omega
  | rdPoll | wrPoll => cases hpoll

/-- Acceptance ends the operation, or leaves no more events than its row allows. -/
theorem exec_idle_eventsLeft {i : Instr} {s u : State} (hq : s.seq = .idle) (hl : 1 ≤ s.pollLimit) (h : exec i s = .next u)
    (hu : u.seq ≠ .idle) : PollLeft u ∧ u.trace = s.trace ∧ eventsLeft i u ≤ i.mostBusEvents s := by
  have hs : i.isSilent s = false := by
    rw [Bool.eq_false_iff]
    intro hsilent
    obtain ⟨r, u', hend⟩ := exec_silent hq hsilent
    cases h.symm.trans hend
    exact hu rfl
  cases MicroStep.of_exec h with
  | accepted q c w _ _ hadm hpoll =>
    exact ⟨⟨hl, by simp [hpoll]⟩, rfl, eventsLeft_accepted hadm hpoll rfl rfl hs⟩
  | startSent hs | readSent hs | readBusy hs | readContinued _ hs | writeSent hs | writeBusy hs => cases hq.symm.trans hs
  | _ => exact absurd rfl hu

end Sys2Proof.Machine
end

section
/-! SUPPORT. The bus traffic of two runs, event by event: a device that stays busy (41_register_transactions.md R101, R102),
and a change of the address whose two transactions are acknowledged (44_config_change.md R136). -/

namespace Sys2Proof.Machine

/-! ### A device that stays busy -/

theorem answer_pollRead3 (s : State) (k : Nat) : answer (pollRead3 s) k = answer s (3 + k) :=
  answer_consume 3 k s

theorem answer_pollRead3_iterate (n k : Nat) (s : State) : answer (pollRead3^[n] s) k = answer s (3 * n + k) := by
  induction n generalizing s with
  | zero => rw [Function.iterate_zero_apply, Nat.mul_zero, Nat.zero_add]
  | succ n ih =>
    rw [Function.iterate_succ_apply, ih, answer_pollRead3]
    congr 1
    omega

theorem pollRead3_iterate_session (n : Nat) (s : State) :
    (pollRead3^[n] s).addr = s.addr ∧ (pollRead3^[n] s).addrSet = s.addrSet ∧ (pollRead3^[n] s).mode = s.mode ∧
    (pollRead3^[n] s).replies = s.replies := by
  induction n generalizing s with
  | zero => exact ⟨rfl, rfl, rfl, rfl⟩
  | succ n ih => exact ih (pollRead3 s)

/-- The `k`-th three-byte read takes the answers from `3 * k` on. -/
theorem pollRead3_iterate_trace (n : Nat) (s : State) :
    (pollRead3^[n] s).trace = s.trace ++ (List.range n).map fun k =>
      .read3 (busAddr s.addr) (answer s (3 * k)) (answer s (3 * k + 1)) (answer s (3 * k + 2)) := by
  induction n with
  | zero => simp
  | succ n ih =>
    obtain ⟨haddr, -⟩ := pollRead3_iterate_session n s
    rw [Function.iterate_succ_apply', pollRead3_trace, ih, haddr, answer_pollRead3_iterate, answer_pollRead3_iterate,
      answer_pollRead3_iterate, List.range_succ, List.map_append, List.append_assoc]
    rfl

theorem exec_rdPoll_busy (i : Instr) {s : State} (hq : s.seq = .rdPoll) (hleft : s.pcnt < s.pollLimit)
    (hbusy : (answer s 0).extractLsb' 0 2 = 0#2) :
    exec i s = .next (if s.pcnt + 1 = s.pollLimit then finish (.fail .timeout) (pollRead3 s) else pollRead3 s) :=
  (exec_rdPoll i s hq).trans (stepRdPoll_busy hbusy hleft)

/-- A read poll with `n + 1` reads left on a device that stays busy times out after exactly that many reads. -/
theorem operate_rdPoll_busy (i : Instr) (n : Nat) (s : State) (hq : s.seq = .rdPoll) (hleft : s.pcnt + (n + 1) = s.pollLimit)
    (hbusy : ∀ k, k < n + 1 → (answer s (3 * k)).extractLsb' 0 2 = 0#2) :
    operate i (n + 1) s = .next (finish (.fail .timeout) (pollRead3^[n + 1] s)) := by
  induction n generalizing s with
  | zero => rw [operate_one, exec_rdPoll_busy i hq (by omega) (hbusy 0 (by omega)), if_pos hleft, Function.iterate_one]
  | succ n ih =>
    have hstep := exec_rdPoll_busy i hq (by omega) (hbusy 0 (by omega))
    rw [if_neg (by omega)] at hstep
    have hrest (k : Nat) (hk : k < n + 1) : (answer (pollRead3 s) (3 * k)).extractLsb' 0 2 = 0#2 := by
      rw [answer_pollRead3, Nat.add_comm, ← Nat.mul_succ]
      exact hbusy (k + 1) (by omega)
    have hcount : (pollRead3 s).pcnt + (n + 1) = (pollRead3 s).pollLimit := by
      rw [pollRead3_pcnt, pollRead3_pollLimit]
      omega
    rw [operate_succ_of_busy (n + 1) hstep (by simp [hq]), ih (pollRead3 s) hq hcount hrest, ← Function.iterate_succ_apply]

/-- The state in which operation `i`, accepted in `s`, has sent the frame of its read with command byte `cmd`. -/
def readStarted (i : Instr) (cmd : Byte) (s : State) : State :=
  { sendFrame cmd 0x00 0x00 (enterBusy .rdTx { s with opr := .instr i, cmd := cmd }) with seq := .rdPoll }

@[simp] theorem readStarted_seq (i : Instr) (cmd : Byte) (s : State) : (readStarted i cmd s).seq = .rdPoll := rfl
@[simp] theorem readStarted_trace (i : Instr) (cmd : Byte) (s : State) :
    (readStarted i cmd s).trace = s.trace ++ [.write (busAddr s.addr) cmd 0x00 0x00] := rfl
@[simp] theorem answer_readStarted (i : Instr) (cmd : Byte) (s : State) (k : Nat) :
    answer (readStarted i cmd s) k = answer s k := rfl

@[simp] theorem readWord_readStarted (i : Instr) (cmd : Byte) (s : State) : readWord (readStarted i cmd s) = readWord s := rfl
@[simp] theorem readStarted_answers (i : Instr) (cmd : Byte) (s : State) : (readStarted i cmd s).answers = s.answers := rfl
@[simp] theorem readStarted_replies (i : Instr) (cmd : Byte) (s : State) : (readStarted i cmd s).replies = s.replies := rfl
@[simp] theorem readStarted_addr (i : Instr) (cmd : Byte) (s : State) : (readStarted i cmd s).addr = s.addr := rfl
@[simp] theorem readStarted_addrSet (i : Instr) (cmd : Byte) (s : State) : (readStarted i cmd s).addrSet = s.addrSet := rfl
@[simp] theorem readStarted_mode (i : Instr) (cmd : Byte) (s : State) : (readStarted i cmd s).mode = s.mode := rfl

/-- In command mode an operation that begins with a read comes down to its poll, two micro-steps on. -/
theorem operate_readStarted {i : Instr} {cmd : Byte} {s : State}
    (haccept : (routine i).accept = needCommandMode (beginRead cmd)) (hq : s.seq = .idle) (hm : s.mode = .inCommandMode)
    (n : Nat) : operate i (n + 2) s = operate i n (readStarted i cmd s) := by
  have hexec : exec i s = .next (enterBusy .rdTx { s with opr := .instr i, cmd := cmd }) :=
    exec_accept_inCommandMode haccept hq hm
  rw [operate_succ_of_busy (n + 1) hexec nofun]
  exact operate_succ_of_busy n (exec_rdTx i _ rfl) nofun

/-! ### An acknowledged change of customer-config -/

/-- The state in which a change that read its word in `s` has sent the frame of its write of `w`. -/
def changeSent (w : Word) (s : State) : State :=
  { sendFrame Config.CMD_WR_CFG (hi8 w) (lo8 w) (changeRead w s) with seq := .wrPoll }

@[simp] theorem changeSent_addr (w : Word) (s : State) : (changeSent w s).addr = s.addr := by simp [changeSent, changeRead]
@[simp] theorem changeSent_addrSet (w : Word) (s : State) : (changeSent w s).addrSet = s.addrSet := by
  simp [changeSent, changeRead]
@[simp] theorem changeSent_mode (w : Word) (s : State) : (changeSent w s).mode = s.mode := by simp [changeSent, changeRead]
@[simp] theorem changeSent_replies (w : Word) (s : State) : (changeSent w s).replies = s.replies := by
  simp [changeSent, changeRead]
@[simp] theorem changeSent_answers (w : Word) (s : State) : (changeSent w s).answers = s.answers.drop 3 := by
  simp [changeSent, changeRead]
@[simp] theorem changeSent_trace (w : Word) (s : State) :
    (changeSent w s).trace = s.trace ++ [.read3 (busAddr s.addr) (answer s 0) (answer s 1) (answer s 2)] ++
      [.write (busAddr s.addr) 0x5C (hi8 w) (lo8 w)] := by
  simp [changeSent, changeRead, Config.CMD_WR_CFG]

/-- The environment's next bytes are a matter of its own two fields. -/
theorem answer_congr {s u : State} (ha : s.answers = u.answers) (hd : s.draws = u.draws) (k : Nat) :
    answer s k = answer u k := by
  rw [answer, answer, ha, hd]

@[simp] theorem answer_changeSent (w : Word) (s : State) (k : Nat) : answer (changeSent w s) k = answer s (3 + k) :=
  (answer_congr (by simp [changeSent, changeRead]) (by simp [changeSent, changeRead]) k).trans (answer_pollRead3 s k)

/-- A change whose read and whose write are acknowledged ends three micro-steps after its read frame. -/
theorem operate_change_acknowledged {i : Instr} {f : Word → Word} {s : State}
    (hi : ∀ v, (routine i).onRead v = continueWrite (f v)) (hq : s.seq = .rdPoll)
    (hread : (statusDecode (answer s 0)).ack = true) (hwrite : (statusDecode (answer s 3)).ack = true) :
    operate i 3 s = .next (finish (.ok .noValue) (pollRead1 (changeSent (f (readWord s)) s))) := by
  have hack : (statusDecode (answer (changeSent (f (readWord s)) s) 0)).ack = true := by
    rw [answer_changeSent]
    exact hwrite
  have hdone := statusDecode_done_of_ack _ hack
  have hsent : exec i (changeRead (f (readWord s)) s) = .next (changeSent (f (readWord s)) s) := exec_wrTx i _ rfl
  rw [operate_succ_of_busy 2 (exec_change_acknowledged hi hq hread) nofun, operate_succ_of_busy 1 hsent nofun, operate_one,
    exec_wrPoll i _ rfl, stepWrPoll, if_pos hdone, if_pos hack, respond_eq]

end Sys2Proof.Machine
end

section
/-! PROOFS. Whole operations (00_scope.md R13; 46_sequencer_steps.md R180; 41_register_transactions.md R101, R102;
44_config_change.md R136), on the micro-steps and on the machine behind Host/Core.lean. -/

namespace Sys2Proof.Proofs

open Sys2Proof Sys2Proof.Machine

/-- Settles O51: every operation completes, in the state that its big-step rule gives. -/
theorem microStepsMeetTheBigStepRule : Obligations.MicroStepsMeetTheBigStepRule := by
  unfold Obligations.MicroStepsMeetTheBigStepRule
  intro i s hq hl
  obtain ⟨m, t, hm, hrun, hend, hview⟩ := completes i hq hl
  exact ⟨m + 1, t, hm, hrun, hend, hview⟩

/-- Settles O52: the machine takes the request in its first step and the micro-steps of the operation in the others. -/
theorem presentedRequestIsAnswered : Obligations.PresentedRequestIsAnswered := by
  unfold Obligations.PresentedRequestIsAnswered
  intro s r rest i hhost hrest hq hb hl hd
  have hpresented (x : HostInput) (hx : ∀ r', x ≠ .request r') : rest.head? ≠ some x := fun hhead => by
    obtain ⟨r', hr'⟩ := hrest x hhead
    exact hx r' hr'
  obtain ⟨m, t, hm, hrun, hend, hview⟩ := completes i (s := { s with host := rest }) hq hl
  obtain ⟨n, hn, hgo, hkept⟩ := core_run_of_operate m s { s with host := rest } t
    (stepRunsTheDecodedRequest s r rest i hhost hq hb hd) (fun hne => absurd hq hne) (hpresented .reset nofun)
    (hpresented .quiet nofun) hrun
  exact ⟨n, t, le_trans hn hm, hgo, hend, hkept, hview⟩

/-- Settles O53: acceptance causes no event and grants what the operation's row allows, and every later micro-step pays. -/
theorem busEventsAreBounded : Obligations.BusEventsAreBounded := by
  unfold Obligations.BusEventsAreBounded
  intro i s t n hq hl hrun
  cases n with
  | zero => cases hrun; omega
  | succ n =>
    obtain ⟨u, hexec, hstep⟩ := exec_idle_cases i s hq
    have haccept : u.trace = s.trace := by
      rcases hstep.trace with ⟨-, htrace⟩ | ⟨hne, -⟩
      · exact htrace
      · exact absurd hq hne
    by_cases hu : u.seq = .idle
    · cases (operate_succ_of_idle n hexec hu).symm.trans hrun
      rw [haccept]
      omega
    · obtain ⟨hp, -, hrow⟩ := exec_idle_eventsLeft hq hl hexec hu
      have hlater := operate_events n hu hp ((operate_succ_of_busy n hexec hu).symm.trans hrun)
      rw [haccept] at hlater
      omega

/-- Settles O54: acceptance, the frame, and `POLL_LIMIT` busy reads, the last of which times out. -/
theorem busyDeviceEndsInTimeout : Obligations.BusyDeviceEndsInTimeout := by
  unfold Obligations.BusyDeviceEndsInTimeout
  intro s cmd hq hm hl hbusy
  obtain ⟨n, hn⟩ : ∃ n, s.pollLimit = n + 1 := ⟨s.pollLimit - 1, by omega⟩
  have hrun : operate (.rdreg cmd) (2 + s.pollLimit) s =
      .next (finish (.fail .timeout) (pollRead3^[n + 1] (readStarted (.rdreg cmd) cmd s))) := by
    rw [Nat.add_comm, operate_readStarted rfl hq hm, hn]
    exact operate_rdPoll_busy _ n _ rfl ((Nat.zero_add _).trans hn.symm) fun k hk => hbusy k (hn ▸ hk)
  obtain ⟨haddr, haddrSet, hmode, hreplies⟩ := pollRead3_iterate_session (n + 1) (readStarted (.rdreg cmd) cmd s)
  refine ⟨_, hrun, rfl, rfl, congrArg (· ++ _) hreplies, hmode, haddr, haddrSet, ?_⟩
  rw [finish_trace, pollRead3_iterate_trace, readStarted_trace, ← busAddr_eq_append, hn, List.append_assoc]
  rfl

/-- Settles O55: the read is answered by the first three bytes and the write by the fourth; the frame carries the new word. -/
theorem chgaddrWholeOperation : Obligations.ChgaddrWholeOperation := by
  unfold Obligations.ChgaddrWholeOperation
  intro s a st1 dh dl st2 rest hq hm ha hans hst1 hst2
  have hbytes : answer s 0 = st1 ∧ answer s 1 = dh ∧ answer s 2 = dl ∧ answer s 3 = st2 := by simp [answer, hans]
  obtain ⟨h0, h1, h2, h3⟩ := hbytes
  have hword : readWord s = dh ++ dl := by rw [readWord_eq, h1, h2]
  have haccept : (routine (.chgaddr a)).accept = needCommandMode (beginRead 0x1C) := by
    rcases chgaddr_forms a with ⟨hbig, -⟩ | ⟨-, hroutine, -⟩
    · omega
    · exact congrArg Routine.accept hroutine
  have hrun : operate (.chgaddr a) 5 s = .next (finish (.ok .noValue)
      (pollRead1 (changeSent (changedAddress (dh ++ dl) a) (readStarted (.chgaddr a) 0x1C s)))) := by
    rw [operate_readStarted haccept hq hm 3, operate_change_acknowledged (f := (changedAddress · a)) (fun _ => rfl) rfl
      (by rw [answer_readStarted, h0]; exact hst1) (by rw [answer_readStarted, h3]; exact hst2), readWord_readStarted, hword]
  refine ⟨_, hi8 (changedAddress (dh ++ dl) a), lo8 (changedAddress (dh ++ dl) a), hrun, ?_, ?_⟩
  · rw [hi8_append_lo8, append_eq_addrField ha]
    rfl
  · simp [h0, h1, h2, h3, hans, busAddr_eq_append]

end Sys2Proof.Proofs
end
